-- ==== Sys2Proof/Word.lean ====
section
/-! DEFINITION. The word types of the GY24 specification. -/

namespace Sys2Proof

/-- One byte of a frame. -/
abbrev Byte := BitVec 8

/-- Part time: a 32-bit count of milliseconds (R181). -/
abbrev PartTime := BitVec 32

/-- A window index, 0 to 2047, wrapping (section 5.3 of the scope file). -/
abbrev WindowIx := BitVec 11

/-- The yard sample counter, 0 to 65535, wrapping (Table 2-1). -/
abbrev SampleCounter := BitVec 16

/-- A stage index, 0 to 23. -/
abbrev StageIx := Fin 24

end Sys2Proof
end

