-- ==== Sys2Proof/Syntax.lean ====
section
/-! DEFINITION. The commands of the GY24: one constructor of `Instr` per row of spec/opcode_table.json, and the types of
their operands. A request's number fields are words of the width R187 gives them, so that every value that can arrive in
the field is a value of the operand. -/

namespace Sys2Proof

/-- The two chain ports: S faces the station, F the field. -/
inductive Port where
  | S | F
  deriving DecidableEq, Repr

/-- The bus phases. -/
inductive Phase where
  | A | B | C
  deriving DecidableEq, Repr

/-- The measured roles of Table 2-3; FORWARD_ONLY is `none` of `Option Role`. -/
inductive Role where
  | busV (p : Phase)
  | stageI (k : StageIx)
  | neutralI (k : StageIx)
  deriving DecidableEq, Repr

/-- The 52 elements of Table 3-2. -/
inductive Element where
  | voltage
  | unbalance (k : StageIx)
  | busHarmonic (p : Phase)
  | stageHarmonic (k : StageIx)
  deriving DecidableEq, Repr

/-- Control sets A and B (R105). -/
inductive SetId where
  | A | B
  deriving DecidableEq, Repr

/-- Who sent a request: the source address of its MANAGE frame and the request number (Table 11-1). -/
structure Requester where
  source : Byte
  number : BitVec 16
  deriving DecidableEq, Repr

/-- One entry of an APPEND MAP request (Table 2-2), its fields as received. -/
structure MapEntryWrite where
  source : Byte
  slot : Byte
  role : Byte
  gain : BitVec 16
  capture : Bool
  deriving DecidableEq, Repr

/-- The settings of a WRITE STAGE request (Table 4-1), as received. -/
structure StageWrite where
  enabled : Bool
  unit : Byte
  rank : Byte
  effect : Byte
  cooldown : BitVec 16
  alarmLevel : BitVec 16
  alarmDelay : BitVec 16
  tripLevel : BitVec 16
  tripDelay : BitVec 16
  compensation : Option (BitVec 16 × BitVec 16)
  orders : List Byte
  thdLimit : BitVec 16
  thdDelay : BitVec 16
  operations : BitVec 24
  deriving DecidableEq, Repr

/-- The settings of a WRITE CONTROL request for set A or B (Table 6-1), as received. -/
structure ControlSetWrite where
  setpoint : BitVec 16
  halfBand : Byte
  level : BitVec 16
  leak : BitVec 16
  settleHold : BitVec 16
  vmax : BitVec 16
  fastInterval : BitVec 16
  deadLevel : BitVec 16
  deadDelay : Byte
  restoreLevel : BitVec 16
  restoreDelay : BitVec 16
  deriving DecidableEq, Repr

/-- A flag for each bus phase (R106, R107). -/
structure PhaseSet where
  a : Bool
  b : Bool
  c : Bool
  deriving DecidableEq, Repr

/-- The table of a full WRITE HARMONIC request (R149), as received. -/
structure HarmonicWrite where
  orders : List (Byte × BitVec 16)
  thdLimit : BitVec 16
  alarmDelay : BitVec 16
  recoverDelay : BitVec 16
  deriving DecidableEq, Repr

/-- The settings of a full WRITE LINK request (Table 11-4), as received. -/
structure LinkWrite where
  checkModes : Vector Byte 7
  threshold : BitVec 16
  watchdog : BitVec 16
  alarmMask : Vector Bool 9
  noticeAddress : Byte
  nominal : Byte
  closeLimit : Byte
  closeGap : BitVec 16
  closeTimeout : BitVec 16
  openTimeout : BitVec 16
  silence : BitVec 16
  deriving DecidableEq, Repr

/-- The settings of a full ARM CAPTURE request (R172), as received. -/
structure ArmWrite where
  mode : Byte
  preCount : Byte
  mask : Vector Bool 6
  deriving DecidableEq, Repr

/-- The commands: one constructor per row of spec/opcode_table.json, in the table's order. -/
inductive Instr where
  | frameReceived (p : Port) (bs : List Byte)
  | transitSlotTaken (p : Port) (b : Byte)
  | cutThroughEligible (p : Port) (bs : List Byte)
  | frameOverlength (p : Port) (bs : List Byte)
  | frameBoundary (p : Port)
  | linkDown (p : Port)
  | linkUp (p : Port)
  | sourceLost (addr : Byte)
  | yardWindowIndexTimeout
  | lastHandedOverTimeout (r : Role)
  | evaluationStateTimeout (e : Element)
  | captureStoreTimeout
  | switchTimeout (k : StageIx)
  | movingTimerExpiry (k : StageIx)
  | unitSilence (k : StageIx)
  | timeBaseTick
  | cooldownExpiry (k : StageIx)
  | closeGapExpiry
  | readStatusPart (rq : Requester)
  | readStatusControl (rq : Requester)
  | readStatusStages (rq : Requester) (first : Byte)
  | readStatusHarmonic (rq : Requester)
  | readStatusCapture (rq : Requester)
  | readMeasurements (rq : Requester) (selector : Byte) (roles : List Byte)
  | readCounters (rq : Requester)
  | clearCounters (rq : Requester)
  | readStage (rq : Requester) (stage : Byte)
  | writeStage (rq : Requester) (stage : Byte) (w : StageWrite)
  | block (rq : Requester) (stage : Byte)
  | unblock (rq : Requester) (stage : Byte)
  | release (rq : Requester) (stage : Byte)
  | manualOpen (rq : Requester) (stage : Byte)
  | manualClose (rq : Requester) (stage : Byte)
  | captureBalance (rq : Requester) (stage : Byte)
  | clearMap (rq : Requester)
  | appendMap (rq : Requester) (entries : List MapEntryWrite)
  | readMap (rq : Requester) (start : Byte)
  | writeControlSet (rq : Requester) (i : SetId) (w : Option ControlSetWrite)
  | writeControlPhases (rq : Requester) (w : Option PhaseSet)
  | writeHarmonic (rq : Requester) (w : Option HarmonicWrite)
  | writeLink (rq : Requester) (w : Option LinkWrite)
  | enterService (rq : Requester)
  | enterConfig (rq : Requester)
  | forceFallback (rq : Requester)
  | resume (rq : Requester)
  | restart (rq : Requester)
  | restartTakesEffect
  | armCapture (rq : Requester) (w : Option ArmWrite)
  | triggerCapture (rq : Requester)
  | readCapture (rq : Requester) (window : Byte) (channel : Byte)
  | releaseCapture (rq : Requester)
  | watchdogExpiry
  | referenceClockLoss
  | referenceClockReturn
  | powerOnReset
  | supplyLowReset
  | pinReset
  | startUp (pins : Byte) (reference : Bool) (upS : Bool) (upF : Bool)
  | kindByteArrives (p : Port) (b : Byte)
  | referenceGapDuringRecovery
  deriving DecidableEq, Repr

end Sys2Proof
end

