-- ==== Sys2Proof/Decode.lean ====
section
/-! DEFINITION. The opcode table gives no row any bits (every row's "fields" is empty), so no word spells a command. -/

namespace Sys2Proof

/-- The command that `nbits` bits of a word spell by spec/opcode_table.json: none, for every word, since the table gives
bits to no row. -/
def decodeTableWord (_nbits _w : Nat) : Option Instr := none

end Sys2Proof
end

