-- ==== Sys2Proof/Config.lean ====
section
/-! DEFINITION. The free values of the model: constants without a body, for what the specification leaves open. -/

namespace Sys2Proof

/-- How far past its least possible end a copy is cut when it is ended poisoned for a failed check or a RESTART
(R10, R19): the specification names no last byte. Applied to the state's counter `fresh`. Log entry 5. -/
opaque Config.freePoisonLength : Nat → Nat

/-- What a flag or presence byte that is neither 0 nor 1 says (R187 gives 0 clear and 1 set only). Log entry 6. -/
opaque Config.freeFlag : Byte → Bool

/-- The byte that stands for THD in a field that holds "the order or THD" (R192, Table 11-5). Log entry 7. -/
opaque Config.freeThdCode : Byte

/-- What the served-by field of a piece that is never filled says (R164 names its other fields), read modulo 3 in the
order PRIMARY, BACKUP, NONE. Log entry 21. -/
opaque Config.freeUnfilledServed : Nat

end Sys2Proof
end

