-- ==== Sys2Proof/Machine/State.lean ====
section
/-! DEFINITION. The state of the GY24, block by block in the order of the specification's chapters, the reasons a step can
stop, and the machine right after reset. -/

namespace Sys2Proof.Machine

/-! ### Chapter 1: ports -/

/-- A frame kind's way through the part (R9). -/
inductive CheckMode where
  | cut | hold
  deriving DecidableEq, Repr

/-- The class of a command and of its COMMAND frame (section 5.1). -/
inductive CmdClass where
  | normal | protect
  deriving DecidableEq, Repr

/-- What an arbiter sent last (R15). -/
inductive Served where
  | transit | insert
  deriving DecidableEq, Repr

/-- State of check of a slot's frame (section 1.3). A frame found bad leaves its slot in the same step (R10, R11), so no
slot holds "bad". -/
inductive CheckState where
  | pending | good
  deriving DecidableEq, Repr

/-- One slot of a transit buffer (section 1.3). -/
structure TransitSlot where
  bytes : List Byte
  mode : CheckMode
  threshold : Nat
  check : CheckState
  begun : Bool
  deriving DecidableEq, Repr

/-- The frame being received on a port: its bytes so far, the check mode and threshold fixed at its kind byte (R9), and
whether it holds the newest slot of the transit buffer toward the other port (R8). -/
structure RxFrame where
  bytes : List Byte
  mode : CheckMode
  threshold : Nat
  inSlot : Bool
  deriving DecidableEq, Repr

/-- The receive store of a port. `ignoring`: a frame was over length and its bytes are ignored until the end mark (R1). -/
inductive Rx where
  | idle
  | receiving (f : RxFrame)
  | ignoring
  deriving DecidableEq, Repr

/-- What kind of frame of the part's own an insert queue entry is; `reply true` is the reply to an accepted RESTART (R184). -/
inductive InsertKind where
  | command (c : CmdClass)
  | reply (restart : Bool)
  | notice
  deriving DecidableEq, Repr

/-- A frame of the part's own, formed whole with its check (section 1.4). -/
structure InsertFrame where
  kind : InsertKind
  bytes : List Byte
  deriving DecidableEq, Repr

/-- The transmission under way on a port: a copy of the head of the transit buffer feeding it, or an insert frame, with
the number of bytes sent whole. -/
inductive Tx where
  | idle
  | transit (sent : Nat)
  | insert (f : InsertFrame) (sent : Nat)
  deriving DecidableEq, Repr

/-- How a copy on the line ended: with the frame's own good check, poisoned (R10), or cut off without check bytes (R17). -/
inductive CopyEnd where
  | whole | poisoned | cutOff
  deriving DecidableEq, Repr

/-- One copy a port has put on its line (model's own record of the output, log entry 4). -/
structure SentCopy where
  bytes : List Byte
  fin : CopyEnd
  deriving DecidableEq, Repr

/-- The counters of Table 1-3 that every port keeps. -/
structure PortCounters where
  good : Nat
  checkFailures : Nat
  transitFull : Nat
  wrongSide : Nat
  poisoned : Nat
  linkDiscards : Nat
  deriving DecidableEq, Repr

/-- One chain port: as input its receive store, as output the transit buffer and the insert queue that feed it, its
transmission, its arbiter's "last served", the own frame sequence count of its direction, and its counters. -/
structure PortState where
  up : Bool
  rx : Rx
  buf : List TransitSlot
  ins : List InsertFrame
  tx : Tx
  lastServed : Served
  seq : Byte
  ctr : PortCounters
  line : List SentCopy
  deriving DecidableEq, Repr

/-! ### Chapter 2: sample intake -/

/-- One entry of the channel map (Table 2-2); role `none` is FORWARD_ONLY. -/
structure MapEntry where
  source : Byte
  slot : Fin 16
  role : Option Role
  gain : BitVec 16
  capture : Bool
  deriving DecidableEq, Repr

/-- Supervision state of a source (R27, R28, R30). -/
inductive SourceStatus where
  | new | healthy | lost
  deriving DecidableEq, Repr

/-- A source record (Table 2-4). `qualified` counts the frames of the current window that meet R29. -/
structure Source where
  addr : Byte
  status : SourceStatus
  last : Option SampleCounter
  arrival : PartTime
  streak : Nat
  window : Option WindowIx
  qualified : Nat
  deriving DecidableEq, Repr

/-- Which entry of a role supplied a window (R36, R41). -/
inductive ServedBy where
  | primary | backup | none
  deriving DecidableEq, Repr

/-- The open window of a role's assembly buffer: index, serving entry, 32 positions (`none` is missing) and marks. -/
structure OpenWindow where
  w : WindowIx
  by_ : ServedBy
  pos : List (Option Int)
  clipped : Bool
  questionable : Bool
  deriving DecidableEq, Repr

/-- A window as handed over to the window engine and to capture (R41). -/
structure ClosedWindow where
  w : WindowIx
  by_ : ServedBy
  complete : Bool
  clipped : Bool
  questionable : Bool
  pos : List (Option Int)
  deriving DecidableEq, Repr

/-! ### Chapter 3: window engine -/

/-- A frequency with its deviation and off-nominal result (R54, R55). -/
structure Freq where
  mHz : Nat
  dev : Nat
  off : Bool
  deriving DecidableEq, Repr

/-- The harmonic part of a slot: each order with its magnitude, and, when the harmonics are available, the per-order
values in the same order and the THD (R48, R50, R51). `values = none` is "not available". -/
structure HarmonicPart where
  orders : List (Nat × Nat)
  values : Option (List Nat)
  thd : Option Nat
  deriving DecidableEq, Repr

/-- The values of a served window (Table 3-1). -/
structure SlotValues where
  rms : Nat
  re : Int
  im : Int
  m1 : Nat
  fund : Nat
  harm : Option HarmonicPart
  deriving DecidableEq, Repr

/-- A result slot (Table 3-1). `freq` is the frequency of a BUS_VA slot; `none` is "no frequency". -/
structure ResultSlot where
  w : WindowIx
  by_ : ServedBy
  complete : Bool
  clipped : Bool
  questionable : Bool
  vals : Option SlotValues
  freq : Option Freq
  deriving DecidableEq, Repr

/-- What the part holds for one role: open window, last handed-over window with the time it was taken, result slots. -/
structure RoleState where
  openWin : Option OpenWindow
  handed : Option (WindowIx × PartTime)
  newest : Option ResultSlot
  previous : Option ResultSlot
  deriving DecidableEq, Repr

/-- The frequency tracker (section 3.5). -/
structure Tracker where
  crossings : List (BitVec 20)
  last : Option (SampleCounter × Int)
  since : Nat
  freq : Option Freq
  updated : Option WindowIx
  deriving DecidableEq, Repr

/-- Evaluation state of an element (R58), with the time from which its 10 s run: it last evaluated a window or was started
then. Absent before the first start, and once the 10 s have run out (R59: the first such tick alone). -/
structure EvalState where
  last : Option WindowIx
  cand : Option WindowIx
  since : Option PartTime
  deriving DecidableEq, Repr

/-! ### Chapters 4, 5, 7 and 8: the stage record -/

/-- The settings of a stage (Table 4-1). -/
structure StageSettings where
  enabled : Bool
  unit : Option Byte
  rank : Nat
  effect : Nat
  cooldown : Nat
  alarmLevel : Nat
  alarmDelay : Nat
  tripLevel : Nat
  tripDelay : Nat
  comp : Option (Int × Int)
  orders : List Nat
  thdLimit : Nat
  thdDelay : Nat
  operations : Nat
  deriving DecidableEq, Repr

/-- Stage states (Table 4-3). -/
inductive StageState where
  | absent | openCooling | openReady | closing | closed | opening | lockedOut | failed
  deriving DecidableEq, Repr

/-- Breaker positions (Table 5-1). -/
inductive Position where
  | open | closed | moving | unknown
  deriving DecidableEq, Repr

/-- Operations (section 5.1). -/
inductive Operation where
  | open | close
  deriving DecidableEq, Repr

/-- Origins of a command (section 5.1). -/
inductive Origin where
  | voltage | fastRemoval | deadLine | unbalanceTrip | harmonicRemoval | manual
  deriving DecidableEq, Repr

/-- A running moving timer (R73). -/
structure MovingTimer where
  start : PartTime
  limit : Nat
  deriving DecidableEq, Repr

/-- An in-flight record (R95). -/
structure InFlight where
  op : Operation
  tag : Byte
  cls : CmdClass
  origin : Origin
  sent : PartTime
  deadline : PartTime
  deriving DecidableEq, Repr

/-- The last computed unbalance of a stage (R131). -/
structure LastU where
  pm : Nat
  re : Int
  im : Int
  w : WindowIx
  deriving DecidableEq, Repr

/-- A running balance capture (R140, R141). -/
structure BalanceCapture where
  count : Nat
  sumRe : Int
  sumIm : Int
  deriving DecidableEq, Repr

/-- State of an unbalance element (Table 7-1); its alarm flag stands in the stage record. -/
structure UnbalanceState where
  lastU : Option LastU
  lowVoltage : Bool
  alarmCount : Nat
  tripCount : Nat
  capture : Option BalanceCapture
  deriving DecidableEq, Repr

/-- A stage record: settings and live state (Tables 4-1 and 4-2), its in-flight record (R95), its unbalance element
(Table 7-1), its overload counter and bar count (R157, R160). -/
structure Stage where
  cfg : StageSettings
  state : StageState
  reported : Option Position
  arrival : Option PartTime
  stable : Option Position
  moving : Option MovingTimer
  silenceFrom : PartTime
  awaiting : Bool
  silent : Bool
  cooling : Nat
  closedInCooldown : Bool
  lockoutPending : Bool
  blocked : Bool
  unbalanceAlarm : Bool
  overload : Bool
  bar : Bool
  inFlight : Option InFlight
  unb : UnbalanceState
  overCount : Nat
  barCount : Nat
  deriving DecidableEq, Repr

/-- An entry of the command queue (section 5.1). -/
structure QueueEntry where
  stage : StageIx
  op : Operation
  cls : CmdClass
  origin : Origin
  entered : PartTime
  deriving DecidableEq, Repr

/-! ### Chapter 6: voltage control -/

/-- A control set (Table 6-1). -/
structure ControlSet where
  setpoint : Nat
  halfBand : Nat
  level : Nat
  leak : Nat
  settleHold : Nat
  vmax : Nat
  fastInterval : Nat
  deadLevel : Nat
  deadDelay : Nat
  restoreLevel : Nat
  restoreDelay : Nat
  deriving DecidableEq, Repr

inductive ControlState where
  | stopped | active | suspended
  deriving DecidableEq, Repr

inductive Withheld where
  | clear | high | low
  deriving DecidableEq, Repr

/-- Live state of voltage control (Table 6-2). -/
structure VoltageState where
  ctl : ControlState
  acc : Int
  withheld : Withheld
  hold : Nat
  missing : Nat
  overCount : Nat
  fastPending : Bool
  fastCount : Nat
  deadCount : Nat
  latch : Bool
  restoreCount : Nat
  lastVc : Option (Nat × WindowIx)
  deriving DecidableEq, Repr

/-! ### Chapter 8: harmonic table and bus alarms -/

/-- The harmonic table (Table 8-1); each order with its bus limit. -/
structure HarmonicTable where
  orders : List (Nat × Nat)
  thdLimit : Nat
  alarmDelay : Nat
  recoverDelay : Nat
  deriving DecidableEq, Repr

/-- State of one quantity on one phase (Table 8-2). -/
structure QuantityState where
  count : Nat
  recover : Nat
  alarm : Bool
  deriving DecidableEq, Repr

/-- One phase's quantities: one per entry of the order list, in its order, and THD. -/
structure PhaseAlarms where
  orders : List QuantityState
  thd : QuantityState
  deriving DecidableEq, Repr

/-! ### Chapter 9: capture -/

/-- The six trigger causes, in the order of section 9.3. -/
inductive Cause where
  | unbalanceAlarm | unbalanceTrip | busHarmonic | deadLine | switchFailure | request
  deriving DecidableEq, Repr

inductive CaptureStatus where
  | disarmed | armed | recording | held
  deriving DecidableEq, Repr

inductive CaptureMode where
  | single | repeating
  deriving DecidableEq, Repr

/-- A capture channel: role, source and slot of its map entry (section 9.1). -/
structure Channel where
  role : Role
  source : Byte
  slot : Fin 16
  deriving DecidableEq, Repr

/-- A piece of a capture window (Table 9-1). -/
structure Piece where
  received : Bool
  by_ : ServedBy
  complete : Bool
  clipped : Bool
  questionable : Bool
  samples : List Int
  deriving DecidableEq, Repr

structure CaptureWindow where
  w : WindowIx
  pieces : List Piece
  deriving DecidableEq, Repr

/-- The header fields of a record that are fixed at its trigger, and its joined-trigger count (Table 9-3, R167). -/
structure RecordHeader where
  cause : Cause
  stage : Option StageIx
  trigger : Option WindowIx
  time : PartTime
  pre : Nat
  channels : List Channel
  joined : Nat
  deriving DecidableEq, Repr

/-- Disturbance capture (chapter 9). `taken` is when the store last took in a window. -/
structure CaptureState where
  status : CaptureStatus
  mode : CaptureMode
  preCount : Nat
  mask : Vector Bool 6
  store : List CaptureWindow
  taken : Option PartTime
  header : Option RecordHeader
  cutShort : Bool
  missed : Nat
  deriving DecidableEq, Repr

/-! ### Chapters 10 and 11: part control and link settings -/

inductive Mode where
  | config | service | fallback
  deriving DecidableEq, Repr

inductive ResetKind where
  | powerOn | supplyLow | pin | restart
  deriving DecidableEq, Repr

inductive ClockSource where
  | reference | internal
  deriving DecidableEq, Repr

/-- State of the management watchdog (R180). -/
inductive Watchdog where
  | off
  | running (start : PartTime)
  | expired
  deriving DecidableEq, Repr

inductive Nominal where
  | hz50 | hz60
  deriving DecidableEq, Repr

/-- The link settings (Table 11-4). -/
structure LinkSettings where
  checkModes : Vector CheckMode 7
  threshold : Nat
  watchdog : Nat
  alarmMask : Vector Bool 9
  noticeAddress : Byte
  nominal : Nominal
  closeLimit : Nat
  closeGap : Nat
  closeTimeout : Nat
  openTimeout : Nat
  silence : Nat
  deriving DecidableEq, Repr

/-! ### The machine -/

/-- The machine state. Every field is plain data. -/
structure State where
  held : Bool
  resetCause : ResetKind
  mode : Mode
  addr : Byte
  now : PartTime
  clock : ClockSource
  recovery : Nat
  watchdog : Watchdog
  restartPending : Bool
  link : LinkSettings
  portS : PortState
  portF : PortState
  preemptions : Nat
  repliesDropped : Nat
  noticesDropped : Nat
  map : List MapEntry
  sources : List Source
  roles : Vector RoleState 51
  yardIx : Option (WindowIx × PartTime)
  malformedSamples : Nat
  lateSamples : Nat
  mapOverflow : Nat
  tracker : Tracker
  evals : Vector EvalState 52
  stages : Vector Stage 24
  inService : List StageIx
  tickPhase : Nat
  malformedPositions : Nat
  queue : List QueueEntry
  tag : Byte
  lastClose : Option PartTime
  setA : ControlSet
  setB : ControlSet
  phases : PhaseSet
  vc : VoltageState
  table : HarmonicTable
  alarms : Vector PhaseAlarms 3
  cap : CaptureState
  fresh : Nat
  pending : List Instr
  deriving DecidableEq, Repr

/-- Reasons the machine stops. The specification names no event that stops the part, so there is none: what goes wrong is
a state, a counter, a notice or a refusing reply. -/
inductive Fault where
  deriving DecidableEq, Repr

/-- Reasons a command is not carried out by the model. -/
inductive Refusal where
  /-- No meaning for the command yet; safe (the model stops where the part goes on). No arm of `exec` raises it. -/
  | notModelled (mnemonic : String)
  deriving DecidableEq, Repr

/-! ### The machine right after reset -/

/-- A port right after reset (R19): link DOWN, everything empty, last served INSERT, counters 0. -/
def resetPort : PortState where
  up := false
  rx := .idle
  buf := []
  ins := []
  tx := .idle
  lastServed := .insert
  seq := 0
  ctr := ⟨0, 0, 0, 0, 0, 0⟩
  line := []

/-- Link settings after POWER_ON (Table 11-4). -/
def resetLink : LinkSettings where
  checkModes := #v[.cut, .cut, .hold, .hold, .hold, .hold, .hold]
  threshold := 64
  watchdog := 0
  alarmMask := Vector.replicate 9 false
  noticeAddress := 0
  nominal := .hz50
  closeLimit := 1
  closeGap := 500
  closeTimeout := 300
  openTimeout := 150
  silence := 1000

def resetRole : RoleState := ⟨none, none, none, none⟩

def resetTracker : Tracker := ⟨[], none, 0, none, none⟩

def resetEval : EvalState := ⟨none, none, none⟩

/-- Stage settings after POWER_ON (Table 4-1). -/
def resetSettings : StageSettings where
  enabled := false
  unit := none
  rank := 0
  effect := 1
  cooldown := 300
  alarmLevel := 500
  alarmDelay := 600
  tripLevel := 1000
  tripDelay := 600
  comp := none
  orders := []
  thdLimit := 0
  thdDelay := 600
  operations := 0

def resetUnbalance : UnbalanceState := ⟨none, false, 0, 0, none⟩

/-- A stage record after POWER_ON (R86). -/
def resetStage : Stage where
  cfg := resetSettings
  state := .absent
  reported := none
  arrival := none
  stable := none
  moving := none
  silenceFrom := 0
  awaiting := false
  silent := false
  cooling := 0
  closedInCooldown := false
  lockoutPending := false
  blocked := false
  unbalanceAlarm := false
  overload := false
  bar := false
  inFlight := none
  unb := resetUnbalance
  overCount := 0
  barCount := 0

/-- The default control set (Table 6-1). -/
def resetControlSet : ControlSet where
  setpoint := 1000
  halfBand := 20
  level := 600
  leak := 10
  settleHold := 300
  vmax := 1100
  fastInterval := 60
  deadLevel := 300
  deadDelay := 6
  restoreLevel := 900
  restoreDelay := 6000

/-- Live state of voltage control after reset (R125). -/
def resetVoltage : VoltageState where
  ctl := .stopped
  acc := 0
  withheld := .clear
  hold := 0
  missing := 0
  overCount := 0
  fastPending := false
  fastCount := 0
  deadCount := 0
  latch := false
  restoreCount := 0
  lastVc := none

/-- The harmonic table after POWER_ON (Table 8-1). -/
def resetTable : HarmonicTable := ⟨[], 50, 50, 3000⟩

def resetQuantity : QuantityState := ⟨0, 0, false⟩

/-- Capture after POWER_ON (R175). -/
def resetCapture : CaptureState where
  status := .disarmed
  mode := .single
  preCount := 4
  mask := Vector.replicate 6 true
  store := []
  taken := none
  header := none
  cutShort := false
  missed := 0

/-- The machine right after a POWER_ON reset began: held in reset, both ports DOWN, YARD ALARM asserted (R183), every
setting at its default. START_UP releases it (R185). Fields that START_UP sets (chain address, clock source) hold
the values log entry 1 names. -/
def State.reset : State where
  held := true
  resetCause := .powerOn
  mode := .config
  addr := 0
  now := 0
  clock := .reference
  recovery := 0
  watchdog := .off
  restartPending := false
  link := resetLink
  portS := resetPort
  portF := resetPort
  preemptions := 0
  repliesDropped := 0
  noticesDropped := 0
  map := []
  sources := []
  roles := Vector.replicate 51 resetRole
  yardIx := none
  malformedSamples := 0
  lateSamples := 0
  mapOverflow := 0
  tracker := resetTracker
  evals := Vector.replicate 52 resetEval
  stages := Vector.replicate 24 resetStage
  inService := []
  tickPhase := 0
  malformedPositions := 0
  queue := []
  tag := 1
  lastClose := none
  setA := resetControlSet
  setB := resetControlSet
  phases := ⟨true, false, false⟩
  vc := resetVoltage
  table := resetTable
  alarms := Vector.replicate 3 ⟨[], resetQuantity⟩
  cap := resetCapture
  fresh := 0
  pending := []

end Sys2Proof.Machine
end

