-- ==== Sys2Proof/Machine/Operands.lean ====
section
/-! DEFINITION. The field encodings of R187: numbers high byte first in the smallest whole number of bytes, named values by
their code, flags, optional fields, lists; the same read back from a parameter part; and the packing of a list into the
241 data bytes of a reply. -/

namespace Sys2Proof.Machine

/-! ### Numbers, flags, optional fields, lists (R187) -/

/-- A number in `k` bytes, high byte first. -/
def be : Nat → Nat → List Byte
  | 0, _ => []
  | k + 1, n => be k (n / 256) ++ [BitVec.ofNat 8 n]

/-- A number of a range with negative values, in two's complement. -/
def beInt (k : Nat) (x : Int) : List Byte := be k (x % (256 ^ k : Nat)).toNat

/-- A flag, or a two-valued item taken as one: 0 clear, 1 set (R187; log entry 54). -/
def encFlag (b : Bool) : List Byte := [if b then 1 else 0]

/-- An optional field whose own encoding has `width` bytes: a presence byte, then the field or zeros. -/
def encOpt (width : Nat) : Option (List Byte) → List Byte
  | none => 0 :: List.replicate width 0
  | some bs => 1 :: bs

def optBe (width : Nat) (o : Option Nat) : List Byte := encOpt width (o.map (be width))

/-- As many of `entries`, in order, as fit whole in `room` bytes. -/
def fitting : Nat → List (List Byte) → List (List Byte)
  | _, [] => []
  | room, e :: es => if e.length ≤ room then e :: fitting (room - e.length) es else []

/-- A list field of a reply whose other fields take `others` bytes: a count, then the entries that fit (R187). -/
def packList (others : Nat) (entries : List (List Byte)) : List Byte :=
  let kept := fitting (241 - others - 1) entries
  BitVec.ofNat 8 kept.length :: kept.flatten

/-! ### Codes of named values (R187): the chapter's own code, or the position in the list that first names them -/

def phaseCode : Phase → Nat
  | .A => 0 | .B => 1 | .C => 2

/-- Role codes (Table 2-3). -/
def roleCode : Role → Nat
  | .busV p => 1 + phaseCode p
  | .stageI k => 32 + k.val
  | .neutralI k => 64 + k.val

/-- The role of a code of Table 2-3: `none` is no code of the table, `some none` is FORWARD_ONLY. -/
def roleOfCode (c : Byte) : Option (Option Role) :=
  if c = 1 then some (some (.busV .A))
  else if c = 2 then some (some (.busV .B))
  else if c = 3 then some (some (.busV .C))
  else if c = 255 then some none
  else if h : c.toNat - 32 < 24 ∧ 32 ≤ c.toNat then some (some (.stageI ⟨c.toNat - 32, h.1⟩))
  else if h : c.toNat - 64 < 24 ∧ 64 ≤ c.toNat then some (some (.neutralI ⟨c.toNat - 64, h.1⟩))
  else none

def checkModeCode : CheckMode → Nat
  | .cut => 0 | .hold => 1

def checkModeOfCode (b : Byte) : Option CheckMode :=
  if b = 0 then some .cut else if b = 1 then some .hold else none

def modeCode : Mode → Nat
  | .config => 0 | .service => 1 | .fallback => 2

def resetCode : ResetKind → Nat
  | .powerOn => 0 | .supplyLow => 1 | .pin => 2 | .restart => 3

def clockCode : ClockSource → Nat
  | .reference => 0 | .internal => 1

def watchdogCode : Watchdog → Nat
  | .off => 0 | .running _ => 1 | .expired => 2

def sourceCode : SourceStatus → Nat
  | .new => 0 | .healthy => 1 | .lost => 2

def servedCode : ServedBy → Nat
  | .primary => 0 | .backup => 1 | .none => 2

def stageStateCode : StageState → Nat
  | .absent => 0 | .openCooling => 1 | .openReady => 2 | .closing => 3
  | .closed => 4 | .opening => 5 | .lockedOut => 6 | .failed => 7

/-- Table 5-1. -/
def positionCode : Position → Nat
  | .open => 0 | .closed => 1 | .moving => 2 | .unknown => 3

def positionOfCode (b : Byte) : Option Position :=
  if b = 0 then some .open else if b = 1 then some .closed else if b = 2 then some .moving
  else if b = 3 then some .unknown else none

/-- Table 5-2. -/
def operationCode : Operation → Nat
  | .open => 1 | .close => 2

/-- Table 5-2. -/
def classCode : CmdClass → Nat
  | .normal => 0 | .protect => 1

def originCode : Origin → Nat
  | .voltage => 0 | .fastRemoval => 1 | .deadLine => 2 | .unbalanceTrip => 3 | .harmonicRemoval => 4 | .manual => 5

def controlCode : ControlState → Nat
  | .stopped => 0 | .active => 1 | .suspended => 2

def withheldCode : Withheld → Nat
  | .clear => 0 | .high => 1 | .low => 2

def causeCode : Cause → Nat
  | .unbalanceAlarm => 0 | .unbalanceTrip => 1 | .busHarmonic => 2 | .deadLine => 3 | .switchFailure => 4 | .request => 5

def captureCode : CaptureStatus → Nat
  | .disarmed => 0 | .armed => 1 | .recording => 2 | .held => 3

def captureModeCode : CaptureMode → Nat
  | .single => 0 | .repeating => 1

def captureModeOfCode (b : Byte) : Option CaptureMode :=
  if b = 0 then some .single else if b = 1 then some .repeating else none

/-- Nominal frequency in Hz, the number the setting is written as (Table 11-4). -/
def nominalHz : Nominal → Nat
  | .hz50 => 50 | .hz60 => 60

def nominalOfHz (b : Byte) : Option Nominal :=
  if b = 50 then some .hz50 else if b = 60 then some .hz60 else none

/-- The byte of "the order or THD"; `none` is THD, whose byte the specification does not give (log entry 7). -/
def encOrder : Option Nat → List Byte
  | some h => be 1 h
  | none => [Config.freeThdCode]

def encPosition (p : Option Position) : List Byte := optBe 1 (p.map positionCode)

def encWindow (w : Option WindowIx) : List Byte := optBe 2 (w.map (·.toNat))

/-! ### Reading a parameter part -/

/-- A received flag or presence byte; only 0 and 1 have a meaning (log entry 6). -/
def decFlag (b : Byte) : Bool := if b = 0 then false else if b = 1 then true else Config.freeFlag b

/-- The `i`-th byte of a list, 0 beyond its end (every caller has checked the length). -/
def byteAt (bs : List Byte) (i : Nat) : Byte := bs.getD i 0

/-- Two bytes at `i`, high byte first. -/
def wordAt (bs : List Byte) (i : Nat) : BitVec 16 := byteAt bs i ++ byteAt bs (i + 1)

/-- Three bytes at `i`, high byte first. -/
def tripleAt (bs : List Byte) (i : Nat) : BitVec 24 := byteAt bs i ++ wordAt bs (i + 1)

/-- A number brought to the nearest end of its range (section 5.2). -/
def clampNat (lo hi n : Nat) : Nat := if n < lo then lo else if hi < n then hi else n

/-- A number with negative values brought to the nearest end of its range. -/
def clampInt (lo hi x : Int) : Int := if x < lo then lo else if hi < x then hi else x

end Sys2Proof.Machine
end

