-- ==== Sys2Proof/Machine/Ops.lean ====
section
/-! DEFINITION. The named operations the meanings share: access to ports, stages, roles and elements, timers, saturating
counters, the frame check, forming the part's own frames, the two insert queues, preemption, and notices. -/

namespace Sys2Proof.Machine

/-! ### Time and counters -/

/-- Milliseconds since `t`, modulo 2^32 (R181). -/
def elapsed (now t : PartTime) : Nat := (now - t).toNat

/-- A 32-bit saturating counter (R18). -/
def bump (n : Nat) : Nat := if n < 4294967295 then n + 1 else n

/-! ### Access -/

def otherPort : Port → Port
  | .S => .F
  | .F => .S

def State.port (s : State) : Port → PortState
  | .S => s.portS
  | .F => s.portF

def State.modPort (s : State) (p : Port) (f : PortState → PortState) : State :=
  match p with
  | .S => { s with portS := f s.portS }
  | .F => { s with portF := f s.portF }

/-- Change the counters of a port. -/
def State.count (s : State) (p : Port) (f : PortCounters → PortCounters) : State :=
  s.modPort p fun q => { q with ctr := f q.ctr }

def State.stage (s : State) (k : StageIx) : Stage := s.stages[k]

def State.modStage (s : State) (k : StageIx) (f : Stage → Stage) : State :=
  { s with stages := s.stages.set k (f s.stages[k]) }

def phaseIx : Phase → Fin 3
  | .A => 0 | .B => 1 | .C => 2

def roleIx : Role → Fin 51
  | .busV p => ⟨phaseCode p, by cases p <;> decide⟩
  | .stageI k => ⟨3 + k.val, by omega⟩
  | .neutralI k => ⟨27 + k.val, by omega⟩

def State.role (s : State) (r : Role) : RoleState := s.roles[roleIx r]

def State.modRole (s : State) (r : Role) (f : RoleState → RoleState) : State :=
  { s with roles := s.roles.set (roleIx r) (f s.roles[roleIx r]) }

def elementIx : Element → Fin 52
  | .voltage => 0
  | .unbalance k => ⟨1 + k.val, by omega⟩
  | .busHarmonic p => ⟨25 + phaseCode p, by cases p <;> decide⟩
  | .stageHarmonic k => ⟨28 + k.val, by omega⟩

def State.eval (s : State) (e : Element) : EvalState := s.evals[elementIx e]

def State.modEval (s : State) (e : Element) (f : EvalState → EvalState) : State :=
  { s with evals := s.evals.set (elementIx e) (f s.evals[elementIx e]) }

/-- The stage indices 0 to 23, in order. -/
def allStages : List StageIx := List.finRange 24

/-- Do `f` for every stage in index order. -/
def State.forStages (s : State) (f : StageIx → State → State) : State :=
  allStages.foldl (fun s k => f k s) s

/-- A stage index received in a request; a larger one names no stage. -/
def stageOfByte (b : Byte) : Option StageIx :=
  if h : b.toNat < 24 then some ⟨b.toNat, h⟩ else none

/-- The part acts on its frames as a full node for an address of 1 to 254 (R3). -/
def State.fullNode (s : State) : Bool := s.addr != 0 && s.addr != 255

/-- The elements run in SERVICE and FALLBACK (R58). -/
def State.running (s : State) : Bool := s.mode != .config

/-! ### The frame check (R2) -/

def crcBit (r : BitVec 16) : BitVec 16 := if r.msb then (r <<< 1) ^^^ 0x1021#16 else r <<< 1

def crcBits : Nat → BitVec 16 → BitVec 16
  | 0, r => r
  | n + 1, r => crcBits n (crcBit r)

def crcByte (r : BitVec 16) (b : Byte) : BitVec 16 := crcBits 8 (r ^^^ (b ++ 0#8))

def crc (bs : List Byte) : BitVec 16 := bs.foldl crcByte 0xFFFF#16

def checkBytes (c : BitVec 16) : List Byte := [c.extractLsb' 8 8, c.extractLsb' 0 8]

/-- The length field of a frame (Table 1-1). -/
def lengthField (bs : List Byte) : Nat := (wordAt bs 4).toNat

/-- The four conditions of R1 at the end mark; the link's staying up is the receive store's still being there (R12). -/
def frameGood (bs : List Byte) : Bool :=
  decide (8 ≤ bs.length) && decide (lengthField bs ≤ 248) && decide (bs.length = 8 + lengthField bs)
    && decide (bs.drop (6 + lengthField bs) = checkBytes (crc (bs.take (6 + lengthField bs))))

def framePayload (bs : List Byte) : List Byte := (bs.drop 6).take (lengthField bs)

/-! ### The part's own frames (R7) -/

/-- A frame of the part's own, whole with its check. -/
def formFrame (code dst src seq : Byte) (payload : List Byte) : List Byte :=
  let body := [code, dst, src, seq] ++ be 2 payload.length ++ payload
  body ++ checkBytes (crc body)

/-- Room for a frame in the up insert queue: port S is UP and the queue holds fewer than 16 (R14, R17). -/
def State.upRoom (s : State) : Bool := s.portS.up && decide (s.portS.ins.length < 16)

/-- A REPLY or NOTICE that could not enter the up insert queue is counted (R14, R17). -/
def State.countUpDrop (s : State) : InsertKind → State
  | .notice => { s with noticesDropped := bump s.noticesDropped }
  | .reply _ => { s with repliesDropped := bump s.repliesDropped }
  | .command _ => s

/-- A REPLY or NOTICE enters the up insert queue with the next up sequence number, or is discarded and counted and takes no
number. A forwarding-only part forms none (R3, R7, R14, R17). -/
def State.enterUp (s : State) (kind : InsertKind) (code dst : Byte) (payload : List Byte) : State :=
  if !s.fullNode then s
  else if s.upRoom then
    { s with portS := { s.portS with
        ins := s.portS.ins ++ [⟨kind, formFrame code dst s.addr s.portS.seq payload⟩]
        seq := s.portS.seq + 1 } }
  else s.countUpDrop kind

/-! ### The down insert queue and preemption (R13, R16) -/

def InsertFrame.isProtect (f : InsertFrame) : Bool := f.kind == .command .protect

/-- Where a COMMAND frame goes in the down insert queue: behind the PROTECT frames for PROTECT, at the tail for NORMAL. -/
def placeCommand (q : List InsertFrame) (f : InsertFrame) : List InsertFrame :=
  if f.isProtect then q.takeWhile InsertFrame.isProtect ++ [f] ++ q.dropWhile InsertFrame.isProtect else q ++ [f]

/-- The bytes of a copy ended poisoned after the first `n` bytes of the frame (R10). -/
def poisonedCopy (bs : List Byte) (n : Nat) : SentCopy :=
  ⟨bs.take n ++ checkBytes (~~~ (crc (bs.take n))), .poisoned⟩

/-- A port's transmission ends and its copy is noted. -/
def PortState.endCopy (q : PortState) (c : SentCopy) : PortState := { q with tx := .idle, line := c :: q.line }

/-- A PROTECT frame at the head of the down insert queue cuts off the transit copy on port F at the end of the byte being
sent, unless the first check byte of the copy has begun (R16). -/
def State.preempt (s : State) : State :=
  match s.portF.tx, s.portF.buf.head?, s.portF.ins.head? with
  | .transit sent, some slot, some f =>
    if f.isProtect && decide (sent < 6 + lengthField slot.bytes) then
      { s with
        portF := s.portF.endCopy (poisonedCopy slot.bytes (min (sent + 1) slot.bytes.length))
        preemptions := bump s.preemptions }
    else s
  | _, _, _ => s

/-- A COMMAND frame enters the down insert queue with the next down sequence number, and a PROTECT frame may preempt. While
port F is DOWN it is discarded and counted, and takes no number (R7, R13, R16, R17). -/
def State.enterDown (s : State) (cls : CmdClass) (dst : Byte) (payload : List Byte) : State :=
  if !s.fullNode then s
  else if s.portF.up then
    State.preempt { s with portF := { s.portF with
        ins := placeCommand s.portF.ins ⟨.command cls, formFrame 0x20 dst s.addr s.portF.seq payload⟩
        seq := s.portF.seq + 1 } }
  else s.count .F fun c => { c with linkDiscards := bump c.linkDiscards }

end Sys2Proof.Machine
end

