-- ==== Sys2Proof/Machine/Notices.lean ====
section
/-! DEFINITION. The notice kinds of Table 11-5 with their detail values, their payloads (R187, R199), and the notice
builder. -/

namespace Sys2Proof.Machine

/-- Answer of gathering (section 5.2). -/
inductive Gathered where
  | queued | merged | already | notQueued
  deriving DecidableEq, Repr

/-- Why a queued entry was removed (R88). -/
inductive DropReason where
  | superseded | satisfied | notReady | fallback
  deriving DecidableEq, Repr

/-- Why an operation failed (R98). -/
inductive FailReason where
  | refused | unknown | timeout
  deriving DecidableEq, Repr

/-- Why an unbalance alarm or harmonic overload flag was cleared (Tables 7-2 and 8-3, R134). -/
inductive ClearCause where
  | dropout | leftClosed | release | disabled | settings
  deriving DecidableEq, Repr

/-- Why a bus alarm was cleared (R150, R155). -/
inductive AlarmClear where
  | table | recovered
  deriving DecidableEq, Repr

/-- What a HARMONIC_OVERLOAD notice reports (R158 to R160). -/
inductive OverloadMark where
  | raised | cleared | barCleared
  deriving DecidableEq, Repr

/-- What abandoned a balance capture (R143). -/
inductive Abandon where
  | leftClosed | write | release
  deriving DecidableEq, Repr

/-- A notice with its detail values (Table 11-5). -/
inductive Notice where
  | start (cause : ResetKind) (addr : Byte)
  | mode (old new : Mode) (byWatchdog : Bool)
  | stageState (k : StageIx) (old new : StageState) (reported : Option Position)
      (blocked silent lockoutPending awaiting : Bool)
  | unbalanceAlarm (k : StageIx) (raised : Bool) (cause : Option ClearCause) (u : Option Nat) (w : Option WindowIx)
  | unbalanceTrip (k : StageIx) (u : Nat) (w : WindowIx) (g : Gathered)
  | harmonicAlarm (raised : Bool) (cause : Option AlarmClear) (order : Option Nat) (phase : Option Phase)
      (value : Option Nat) (w : Option WindowIx)
  | harmonicOverload (k : StageIx) (mark : OverloadMark) (cause : Option ClearCause) (thd : Option Nat)
      (w : Option WindowIx) (g : Option Gathered)
  | switchFailure (k : StageIx) (f : InFlight) (reason : FailReason) (reported : Option Position)
  | deadLine (restored : Bool) (w : WindowIx) (vc : Nat) (submitted : Option Nat)
  | suspended (resumed : Bool) (w : WindowIx)
  | source (addr : Byte) (status : SourceStatus)
  | clock (source : ClockSource)
  | balanceStored (k : StageIx) (re im : Int) (brought : Bool) (w : WindowIx)
  | balanceAbandoned (k : StageIx) (event : Abandon) (count : Nat)
  | captureReady (h : RecordHeader) (windows : Nat) (cutShort : Bool)
  | closedInCooldown (k : StageIx) (ms : Nat)
  | commandDropped (e : QueueEntry) (reason : DropReason) (state : Option StageState)
  deriving DecidableEq, Repr

def gatheredCode : Gathered → Nat
  | .queued => 0 | .merged => 1 | .already => 2 | .notQueued => 3

def dropCode : DropReason → Nat
  | .superseded => 0 | .satisfied => 1 | .notReady => 2 | .fallback => 3

def failCode : FailReason → Nat
  | .refused => 0 | .unknown => 1 | .timeout => 2

def clearCode : ClearCause → Nat
  | .dropout => 0 | .leftClosed => 1 | .release => 2 | .disabled => 3 | .settings => 4

def alarmClearCode : AlarmClear → Nat
  | .table => 0 | .recovered => 1

def overloadCode : OverloadMark → Nat
  | .raised => 0 | .cleared => 1 | .barCleared => 2

def abandonCode : Abandon → Nat
  | .leftClosed => 0 | .write => 1 | .release => 2

/-- The notice kind code (Table 11-5). -/
def Notice.code : Notice → Byte
  | .start .. => 1 | .mode .. => 2 | .stageState .. => 3 | .unbalanceAlarm .. => 4 | .unbalanceTrip .. => 5
  | .harmonicAlarm .. => 6 | .harmonicOverload .. => 7 | .switchFailure .. => 8 | .deadLine .. => 9
  | .suspended .. => 10 | .source .. => 11 | .clock .. => 12 | .balanceStored .. => 13 | .balanceAbandoned .. => 13
  | .captureReady .. => 14 | .closedInCooldown .. => 15 | .commandDropped .. => 16

/-- The stage a notice carries (Table 11-5). -/
def Notice.stage : Notice → Option StageIx
  | .stageState k .. | .unbalanceAlarm k .. | .unbalanceTrip k .. | .harmonicOverload k .. | .switchFailure k ..
  | .balanceStored k .. | .balanceAbandoned k .. | .closedInCooldown k .. => some k
  | .commandDropped e .. => some e.stage
  | .captureReady h .. => h.stage
  | .start .. | .mode .. | .harmonicAlarm .. | .deadLine .. | .suspended .. | .source .. | .clock .. => none

/-- The detail values of a notice, in the order of Table 11-5. -/
def Notice.detail : Notice → List Byte
  | .start c a => be 1 (resetCode c) ++ [a]
  | .mode o n wd => be 1 (modeCode o) ++ be 1 (modeCode n) ++ encFlag wd
  | .stageState _ o n r b u l a =>
    be 1 (stageStateCode o) ++ be 1 (stageStateCode n) ++ encPosition r ++ encFlag b ++ encFlag u ++ encFlag l ++ encFlag a
  | .unbalanceAlarm _ raised c u w =>
    encFlag (!raised) ++ optBe 1 (c.map clearCode) ++ optBe 2 u ++ encWindow w
  | .unbalanceTrip _ u w g => be 2 u ++ be 2 w.toNat ++ be 1 (gatheredCode g)
  | .harmonicAlarm raised c h p v w =>
    encFlag (!raised) ++ optBe 1 (c.map alarmClearCode) ++ encOrder h ++ optBe 1 (p.map phaseCode) ++ optBe 2 v
      ++ encWindow w
  | .harmonicOverload _ m c t w g =>
    be 1 (overloadCode m) ++ optBe 1 (c.map clearCode) ++ optBe 2 t ++ encWindow w ++ optBe 1 (g.map gatheredCode)
  | .switchFailure _ f r p =>
    be 1 (operationCode f.op) ++ [f.tag] ++ be 1 (classCode f.cls) ++ be 1 (originCode f.origin) ++ be 1 (failCode r)
      ++ encPosition p ++ be 4 f.sent.toNat
  | .deadLine restored w v n => encFlag restored ++ be 2 w.toNat ++ be 2 v ++ optBe 1 n
  | .suspended resumed w => encFlag resumed ++ be 2 w.toNat
  | .source a st => [a] ++ be 1 (sourceCode st)
  | .clock c => encFlag (c == .reference)
  | .balanceStored _ re im br w =>
    encFlag false ++ encOpt 4 (some (beInt 2 re ++ beInt 2 im)) ++ encOpt 1 (some (encFlag br)) ++ encWindow (some w)
      ++ optBe 1 none ++ optBe 1 none
  | .balanceAbandoned _ e n =>
    encFlag true ++ encOpt 4 none ++ encOpt 1 none ++ encWindow none ++ optBe 1 (some (abandonCode e)) ++ optBe 1 (some n)
  | .captureReady h n cut =>
    be 1 (causeCode h.cause) ++ encWindow h.trigger ++ be 1 h.pre ++ be 1 n ++ be 1 h.joined ++ encFlag cut
  | .closedInCooldown _ ms => be 3 ms
  | .commandDropped e r st =>
    be 1 (operationCode e.op) ++ be 1 (classCode e.cls) ++ be 1 (originCode e.origin) ++ be 4 e.entered.toNat
      ++ be 1 (dropCode r) ++ optBe 1 (st.map stageStateCode)

/-- The payload of a notice taken at part time `t` (R199). -/
def Notice.payload (n : Notice) (t : PartTime) : List Byte :=
  [n.code] ++ optBe 1 (n.stage.map Fin.val) ++ be 4 t.toNat ++ n.detail

/-- The notice builder forms the NOTICE frame and enters it in the up insert queue (R199, R201). -/
def State.notice (s : State) (n : Notice) : State :=
  s.enterUp .notice 0x32 s.link.noticeAddress (n.payload s.now)

/-- Change a stage record; a change of its state, unit-silent or blocked flag sends one STAGE_STATE notice (R75). -/
def State.changeStage (s : State) (k : StageIx) (f : Stage → Stage) : State :=
  let a := s.stage k
  let b := f a
  let s' := s.modStage k fun _ => b
  if a.state = b.state ∧ a.silent = b.silent ∧ a.blocked = b.blocked then s'
  else s'.notice (.stageState k a.state b.state b.reported b.blocked b.silent b.lockoutPending b.awaiting)

end Sys2Proof.Machine
end

