-- ==== Sys2Proof/Machine/Capture.lean ====
section
/-! DEFINITION. Disturbance capture (chapter 9): the channel list, triggers, taking in closed windows, the end of a
recording, and map edits. -/

namespace Sys2Proof.Machine

def causeIx : Cause → Fin 6
  | .unbalanceAlarm => 0 | .unbalanceTrip => 1 | .busHarmonic => 2 | .deadLine => 3 | .switchFailure => 4 | .request => 5

/-- A window index is ahead of another when their difference modulo 2048 lies in 1 to 1023 (R35). -/
def ahead (a b : WindowIx) : Bool := decide (1 ≤ (a - b).toNat) && decide ((a - b).toNat ≤ 1023)

/-- The capture channels: the flagged map entries in map order (section 9.1). -/
def channelsOf (m : List MapEntry) : List Channel :=
  m.filterMap fun e => if e.capture then e.role.map fun r => ⟨r, e.source, e.slot⟩ else none

def State.channels (s : State) : List Channel := channelsOf s.map

/-! ### Triggers (R166, R167) -/

/-- What a trigger did, in the words of R173. -/
inductive TriggerResult where
  | started | joined | missed | masked
  deriving DecidableEq, Repr

/-- A trigger in ARMED fixes the header of the record (R167). A ring of 16 whole windows is not complete by that (log entry
50). -/
def State.startRecord (s : State) (c : Cause) (k : Option StageIx) (w : Option WindowIx) : State :=
  { s with cap := { s.cap with
      status := .recording
      header := some ⟨c, k, w, s.now, s.cap.store.length - 1, s.channels, 0⟩
      cutShort := false } }

/-- A trigger in RECORDING joins the record (R166). -/
def State.joinRecord (s : State) : State :=
  { s with cap := { s.cap with header := s.cap.header.map fun h => { h with joined := min 255 (h.joined + 1) } } }

/-- A trigger arrives (R166). -/
def State.triggerWith (s : State) (c : Cause) (k : Option StageIx) (w : Option WindowIx) : State × TriggerResult :=
  if !s.cap.mask[causeIx c] then (s, .masked)
  else match s.cap.status with
    | .armed => (s.startRecord c k w, .started)
    | .recording => (s.joinRecord, .joined)
    | .held | .disarmed => ({ s with cap := { s.cap with missed := bump s.cap.missed } }, .missed)

def State.trigger (s : State) (c : Cause) (k : Option StageIx) (w : Option WindowIx) : State := (s.triggerWith c k w).1

/-! ### Pieces (R164) -/

def servedOfNat (n : Nat) : ServedBy := if n % 3 = 0 then .primary else if n % 3 = 1 then .backup else .none

/-- A piece that has not been filled; the specification does not say what its served-by reads (log entry 21). -/
def unfilledPiece : Piece :=
  ⟨false, servedOfNat Config.freeUnfilledServed, false, false, false, List.replicate 32 (-32768)⟩

/-- A piece filled from a closed window; a missing position stores −32768. -/
def filledPiece (c : ClosedWindow) : Piece :=
  ⟨true, c.by_, c.complete, c.clipped, c.questionable, c.pos.map fun x => x.getD (-32768)⟩

/-- Fill the pieces of the channels with role `r`. -/
def fillPieces (ch : List Channel) (r : Role) (c : ClosedWindow) (ps : List Piece) : List Piece :=
  (ch.zip ps).map fun cp => if cp.1.role = r then filledPiece c else cp.2

/-! ### End of a recording (R168, R169) -/

/-- The record becomes HELD, with its CAPTURE_READY notice. -/
def State.holdRecord (s : State) (cut : Bool) : State :=
  let s' := { s with cap := { s.cap with status := .held, cutShort := cut } }
  match s.cap.header with
  | some h => s'.notice (.captureReady h s.cap.store.length cut)
  | none => s'

/-- Out of a record or after a map edit: ARMED, or DISARMED when no capture channel exists. -/
def State.rearmed (s : State) : CaptureStatus := if s.channels = [] then .disarmed else .armed

/-- A recording is cut short; without a capture window there is no record to hold (R169). One that already holds its
sixteenth window, not yet whole, is held with 16 (log entry 44). -/
def State.cutRecording (s : State) : State :=
  if s.cap.store = [] then { s with cap := { s.cap with status := s.rearmed, header := none } }
  else s.holdRecord true

/-! ### Taking in a closed window (R165, R168) -/

/-- A new capture window joins the end of the store, its pieces for the role filled; outside RECORDING the store keeps the
front and at most P windows behind it. -/
def State.openCaptureWindow (s : State) (r : Role) (c : ClosedWindow) : State :=
  let ch := s.channels
  let store := s.cap.store ++ [⟨c.w, fillPieces ch r c (ch.map fun _ => unfilledPiece)⟩]
  let store := if s.cap.status = .recording then store else store.drop (store.length - (s.cap.preCount + 1))
  { s with cap := { s.cap with store := store } }

/-- The pieces for the role are filled in the capture window of the same index. -/
def State.fillCaptureWindow (s : State) (r : Role) (c : ClosedWindow) : State :=
  { s with cap := { s.cap with
      store := s.cap.store.map fun x => if x.w = c.w then { x with pieces := fillPieces s.channels r c x.pieces } else x } }

/-- The recording holds 16 windows and every piece of the last one, of index `w`, is received: looked at in the handovers of a
recording alone, also where the last window was whole when the record started (R168; log entry 50). -/
def State.lastWindowWhole (s : State) (w : WindowIx) : Bool :=
  decide (s.cap.status = .recording) && decide (s.cap.store.length = 16) &&
    (match s.cap.store.getLast? with
     | some x => decide (x.w = w) && x.pieces.all (·.received)
     | none => false)

/-- The recording completes if this handover left its last window whole (R168). -/
def State.completeIfWhole (s : State) (w : WindowIx) : State := if s.lastWindowWhole w then s.holdRecord false else s

/-- What the index of a window that is taken in brings about (R165, R168). A window ahead of the front opens a capture
window even where an older one of the store has its index (log entry 39); one neither stored nor ahead of it counts as
behind, the one 1024 away too (R35; log entry 51). -/
def State.storeWindow (s : State) (r : Role) (c : ClosedWindow) : State :=
  match s.cap.store.getLast? with
  | none => (s.openCaptureWindow r c).completeIfWhole c.w
  | some front =>
    if ahead c.w front.w then
      if s.cap.status = .recording && decide (16 ≤ s.cap.store.length) then s.holdRecord false
      else (s.openCaptureWindow r c).completeIfWhole c.w
    else if s.cap.store.any (fun x => x.w = c.w) then (s.fillCaptureWindow r c).completeIfWhole c.w
    else s

/-- Capture takes in each closed window of a channel's role at its handover, stored or not (R165; log entry 38). -/
def State.captureTake (s : State) (r : Role) (c : ClosedWindow) : State :=
  if s.cap.status = .held || !s.channels.any (fun ch => ch.role = r) then s
  else State.storeWindow { s with cap := { s.cap with taken := some s.now } } r c

/-! ### Map edits and timeouts (R174, R165) -/

/-- A map edit has changed the channel list (R174); `s` already holds the new map. -/
def State.channelsChanged (s : State) : State :=
  match s.cap.status with
  | .disarmed => { s with cap := { s.cap with store := [] } }
  | .armed => { s with cap := { s.cap with store := [], status := s.rearmed } }
  | .recording => s.cutRecording
  | .held => s

/-- The tick 10 s after the store last took in a window has come (R165). With an empty store there is nothing to empty, and
a recording is ended only by that very tick (R181, log entry 8). Where the store never took in a window since the reset, no
10 s run (log entry 45). -/
def State.captureStoreDue (s : State) : Bool :=
  match s.cap.taken with
  | none => false
  | some t => if s.cap.store = [] then decide (elapsed s.now t = 10000) else decide (10000 ≤ elapsed s.now t)

def State.captureStoreTimeout (s : State) : State :=
  if s.captureStoreDue then
    match s.cap.status with
    | .disarmed | .armed => { s with cap := { s.cap with store := [] } }
    | .recording => s.cutRecording
    | .held => s
  else s

end Sys2Proof.Machine
end

