-- ==== Sys2Proof/Machine/Engine.lean ====
section
/-! DEFINITION. The window engine (chapter 3): RMS, phasors, harmonic and THD values, the frequency tracker, and the result
slots. -/

namespace Sys2Proof.Machine

/-! ### Integer square root (section 5.4) -/

/-- Binary search for the root, bit `b - 1` downward. -/
def isqrtBits : Nat → Nat → Nat → Nat
  | 0, _, r => r
  | b + 1, n, r => if (r + 2 ^ b) * (r + 2 ^ b) ≤ n then isqrtBits b n (r + 2 ^ b) else isqrtBits b n r

/-- The largest integer whose square does not exceed `n`, for `n` below 2^64 (every width of the specification is). -/
def isqrt (n : Nat) : Nat := isqrtBits 32 n 0

/-! ### RMS (R45) -/

def sumSquares (xs : List Int) : Nat := (xs.map fun x => x.natAbs * x.natAbs).sum

/-- The RMS value in counts (steps 1 to 3 of R45). -/
def rmsCounts (xs : List Int) : Nat := isqrt (sumSquares xs / 32)

/-- The RMS value in per-mille (step 4 of R45). -/
def rmsPm (xs : List Int) : Nat := (rmsCounts xs * 1000 + 4096) / 8192

/-! ### Phasors (R46, R47) -/

/-- The first-quadrant values c[0] to c[8]. -/
def quarterWave : List Int := [16384, 16069, 15137, 13623, 11585, 9102, 6270, 3196, 0]

/-- c[m] for m modulo 32, by the two rules of R46. -/
def cosCoef (m : Nat) : Int :=
  let m := m % 32
  let k := if m ≤ 16 then m else 32 - m
  if k ≤ 8 then quarterWave.getD k 0 else -(quarterWave.getD (16 - k) 0)

/-- C_h[n]. -/
def cosOf (h n : Nat) : Int := cosCoef (h * n)

/-- S_h[n]. -/
def sinOf (h n : Nat) : Int := -(cosCoef (h * n + 24))

/-- Σ s[n] × f n over the positions from `n` on. -/
def correlate (f : Nat → Int) : Nat → List Int → Int
  | _, [] => 0
  | n, x :: xs => x * f n + correlate f (n + 1) xs

/-- A phasor in peak counts with its magnitude M_h. -/
structure Phasor where
  re : Int
  im : Int
  mag : Nat
  deriving DecidableEq, Repr

/-- The phasor of order `h` (R47). -/
def phasor (h : Nat) (xs : List Int) : Phasor :=
  let re' := correlate (cosOf h) 0 xs / 16384
  let im' := correlate (sinOf h) 0 xs / 16384
  ⟨re' / 16, im' / 16, isqrt (re'.natAbs * re'.natAbs + im'.natAbs * im'.natAbs) / 16⟩

/-! ### Per-mille values (R49 to R51) -/

/-- The THD of the magnitudes `ms` referred to `m1` (R51). -/
def thdPm (ms : List Nat) (m1 : Nat) : Nat := min 2000 (isqrt (ms.map fun m => m * m).sum * 1000 / m1)

/-- The harmonic part of a BUS_V or STAGE_I slot for the orders of the table (R48, R50, R51). -/
def harmonicPart (orders : List Nat) (m1 : Nat) (xs : List Int) : HarmonicPart :=
  let ms := orders.map fun h => (h, (phasor h xs).mag)
  if 256 ≤ m1 then
    ⟨ms, some (ms.map fun m => min 2000 (m.2 * 1000 / m1)),
      if orders = [] then none else some (thdPm (ms.map (·.2)) m1)⟩
  else ⟨ms, none, none⟩

/-- NEUTRAL_I roles have no harmonic part (R48). -/
def hasHarmonics : Role → Bool
  | .busV _ | .stageI _ => true
  | .neutralI _ => false

/-- All values of a served window (R45 to R51). -/
def slotValues (orders : List Nat) (r : Role) (xs : List Int) : SlotValues :=
  let v := phasor 1 xs
  { rms := rmsPm xs
    re := v.re
    im := v.im
    m1 := v.mag
    fund := v.mag * 1000 / 11585
    harm := if hasHarmonics r then some (harmonicPart orders v.mag xs) else none }

/-! ### Frequency tracking (R52 to R56) -/

/-- Counter 32w + n. -/
def counterAt (w : WindowIx) (n : Nat) : SampleCounter := w ++ BitVec.ofNat 5 n

/-- The window of a counter. -/
def windowOf (c : SampleCounter) : WindowIx := c.extractLsb' 5 11

/-- The history is discarded (R53). -/
def Tracker.discard (t : Tracker) : Tracker := { t with crossings := [], last := none, since := 0, freq := none }

/-- There is a positive-going crossing from `a` to `b` (R52). -/
def crossing (t : Tracker) (c : SampleCounter) (b : Int) : Option Int :=
  match t.last with
  | some (l, a) => if l = c - 1 ∧ a < 0 ∧ 0 ≤ b then some a else none
  | none => none

/-- The crossing position in sixteenths of a sample, modulo 2^20 (R52). -/
def crossingPos (c : SampleCounter) (a b : Int) : BitVec 20 :=
  (c - 1) ++ BitVec.ofNat 4 (min 15 (-a * 16 / (b - a)).toNat)

/-- A crossing joins the list, the oldest of five leaving first. -/
def joinCrossing (l : List (BitVec 20)) (x : BitVec 20) : List (BitVec 20) := (if 5 ≤ l.length then l.drop 1 else l) ++ [x]

/-- One position of the walk (R52, R53). Two cycles without a crossing discard the history, and the sample is then the
last sample of the new history (log entry 22). -/
def Tracker.step (t : Tracker) (c : SampleCounter) : Option Int → Tracker
  | none => t.discard
  | some b =>
    match crossing t c b with
    | some a =>
      { t with crossings := joinCrossing t.crossings (crossingPos c a b), since := 0, last := some (c, b) }
    | none =>
      if t.crossings = [] then { t with last := some (c, b) }
      else if t.since + 1 < 64 then { t with since := t.since + 1, last := some (c, b) }
      else { t.discard with last := some (c, b) }

/-- The walk through the positions from `n` on. -/
def Tracker.walk (w : WindowIx) : Nat → List (Option Int) → Tracker → Tracker
  | _, [], t => t
  | n, x :: xs, t => Tracker.walk w (n + 1) xs (t.step (counterAt w n) x)

/-- The deviation and off-nominal result of a frequency (R55). -/
def freqOf (nominal mHz : Nat) : Freq :=
  let dev := (max mHz nominal - min mHz nominal) * 1000 / nominal
  ⟨mHz, dev, decide (30 < dev)⟩

/-- The frequency at the end of a walk (R54). `nominal` is in mHz. -/
def Tracker.finish (t : Tracker) (nominal : Nat) (w : WindowIx) : Tracker :=
  match t.crossings with
  | [a, _, _, _, e] => { t with freq := some (freqOf nominal (nominal * 2048 / (e - a).toNat)), updated := some w }
  | _ => { t with freq := none }

/-- The tracker takes a BUS_VA window (R52 to R54). -/
def Tracker.take (t : Tracker) (nominal : Nat) (c : ClosedWindow) : Tracker :=
  if c.by_ = .none then t.discard
  else
    let t1 := match t.last with
      | some (l, _) => if windowOf l + 1 = c.w then t else t.discard
      | none => t
    (t1.walk c.w 0 c.pos).finish nominal c.w

/-- Nominal frequency in mHz (R54). -/
def State.nominalMHz (s : State) : Nat := nominalHz s.link.nominal * 1000

/-! ### Result slots (R44, R57, R60) -/

/-- The slot of a closed window (R44); `f` is the frequency for BUS_VA. -/
def resultSlot (orders : List Nat) (r : Role) (c : ClosedWindow) (f : Option Freq) : ResultSlot :=
  { w := c.w
    by_ := c.by_
    complete := c.complete
    clipped := c.clipped
    questionable := c.questionable
    vals := if c.by_ = .none then none else some (slotValues orders r (c.pos.map fun x => x.getD 0))
    freq := f }

/-- NEWEST moves to PREVIOUS and takes the new result (R57). -/
def State.publish (s : State) (r : Role) (x : ResultSlot) : State :=
  s.modRole r fun a => { a with newest := some x, previous := a.newest }

/-- The engine's part of a handover: the tracker for BUS_VA, the computation, the publication (R44). -/
def State.compute (s : State) (r : Role) (c : ClosedWindow) : State :=
  let orders := s.table.orders.map (·.1)
  if r = .busV .A then
    let t := s.tracker.take s.nominalMHz c
    State.publish { s with tracker := t } r (resultSlot orders r c t.freq)
  else s.publish r (resultSlot orders r c none)

/-- The slot that holds a role's result for window `w` (R60); where both slots have that index, NEWEST (log entry 47). -/
def State.slotFor (s : State) (r : Role) (w : WindowIx) : Option ResultSlot :=
  match (s.role r).newest with
  | some x => if x.w = w then some x else (s.role r).previous.filter fun y => y.w = w
  | none => (s.role r).previous.filter fun y => y.w = w

/-- Some slot of the role holds a window ahead of `w`. -/
def State.slotAhead (s : State) (r : Role) (w : WindowIx) : Bool :=
  (s.role r).newest.any (fun x => ahead x.w w) || (s.role r).previous.any (fun x => ahead x.w w)

/-- The values of a role usable for window `w`: its slot exists, is served and is complete (R60). -/
def State.usable (s : State) (r : Role) (w : WindowIx) : Option SlotValues :=
  match s.slotFor r w with
  | some x => if x.complete && x.by_ != .none then x.vals else none
  | none => none

end Sys2Proof.Machine
end

