-- ==== Sys2Proof/Machine/Flags.lean ====
section
/-! DEFINITION. Conditions the specification reads from the state without storing them: primary and backup entries, the
currently-served and unsupervised conditions, bus alarms and resonance bars, the control set in force, the
clock-fallback flag, and the YARD ALARM classes and output. -/

namespace Sys2Proof.Machine

/-! ### Roles and their entries (R21, R30, R138) -/

/-- The entries of a role in map order: the first is the primary, the second the backup (R21). -/
def entriesOf (m : List MapEntry) (r : Role) : List MapEntry := m.filter fun e => e.role = some r

def primaryOf (m : List MapEntry) (r : Role) : Option MapEntry := (entriesOf m r)[0]?

def backupOf (m : List MapEntry) (r : Role) : Option MapEntry := (entriesOf m r)[1]?

def mapped (m : List MapEntry) (r : Role) : Bool := (primaryOf m r).isSome

/-- The mapped roles, in the order of their primaries. -/
def mappedRoles (m : List MapEntry) : List Role :=
  (m.filterMap (·.role)).foldl (fun acc r => if r ∈ acc then acc else acc ++ [r]) []

def State.source? (s : State) (a : Byte) : Option Source := s.sources.find? fun x => x.addr = a

def State.sourceHealthy (s : State) (a : Byte) : Bool :=
  match s.source? a with
  | some x => x.status == .healthy
  | none => false

/-- A mapped role is currently served when the source of its primary or of its backup is HEALTHY (R30). -/
def State.currentlyServed (s : State) (r : Role) : Bool :=
  (primaryOf s.map r).any (fun e => s.sourceHealthy e.source) || (backupOf s.map r).any (fun e => s.sourceHealthy e.source)

/-- An enabled stage is unsupervised while its NEUTRAL_I role is not currently served (R138). -/
def State.unsupervised (s : State) (k : StageIx) : Bool :=
  (s.stage k).cfg.enabled && !s.currentlyServed (.neutralI k)

/-! ### Bus alarms and resonance bars (Table 8-2, R156) -/

/-- The alarm state of the `i`-th order on a phase. -/
def State.quantity (s : State) (p : Phase) (i : Nat) : QuantityState :=
  (s.alarms[phaseIx p].orders[i]?).getD resetQuantity

/-- The bus alarm of the `i`-th order is active while a phase alarm of it is raised. -/
def State.orderAlarm (s : State) (i : Nat) : Bool :=
  (s.quantity .A i).alarm || (s.quantity .B i).alarm || (s.quantity .C i).alarm

/-- The bus alarm of THD. -/
def State.thdAlarm (s : State) : Bool :=
  s.alarms[phaseIx .A].thd.alarm || s.alarms[phaseIx .B].thd.alarm || s.alarms[phaseIx .C].thd.alarm

/-- Some bus alarm is active, of any order or THD. -/
def State.anyBusAlarm (s : State) : Bool :=
  (List.range s.table.orders.length).any s.orderAlarm || s.thdAlarm

/-- The bus alarm of order `h` is active; an order outside the table has none (R156). -/
def State.busAlarmOf (s : State) (h : Nat) : Bool :=
  (List.range s.table.orders.length).any fun i => s.orderAlarm i && decide ((s.table.orders[i]?).map (·.1) = some h)

/-- The resonance bar of a stage (R156). -/
def State.resonanceBar (s : State) (k : StageIx) : Bool := (s.stage k).cfg.orders.any s.busAlarmOf

/-! ### Control set in force (R105) -/

/-- The control set in force; in CONFIG none is. -/
def State.setInForce (s : State) : Option SetId :=
  match s.mode with
  | .config => none
  | .service => some .A
  | .fallback => some .B

def State.controlSet (s : State) : SetId → ControlSet
  | .A => s.setA
  | .B => s.setB

/-- The settings voltage control works with while it runs: set B in FALLBACK, set A otherwise. -/
def State.forceSet (s : State) : ControlSet := if s.mode = .fallback then s.setB else s.setA

/-! ### YARD ALARM (R186) -/

/-- The clock-fallback flag is set while the source is INTERNAL (R182). -/
def State.clockFallback (s : State) : Bool := s.clock == .internal

/-- The nine classes in the order of R186's table. -/
def State.alarmClasses (s : State) : Vector Bool 9 :=
  #v[allStages.any (fun k => (s.stage k).cfg.enabled && ((s.stage k).state == .lockedOut || (s.stage k).lockoutPending)),
     allStages.any (fun k => (s.stage k).cfg.enabled && (s.stage k).state == .failed),
     allStages.any (fun k => (s.stage k).unbalanceAlarm),
     s.anyBusAlarm || allStages.any (fun k => (s.stage k).overload),
     s.mode == .fallback,
     s.sources.any (fun x => x.status == .lost),
     s.clockFallback,
     s.vc.ctl == .suspended,
     !s.fullNode]

/-- The YARD ALARM output: asserted while held in reset, afterwards while a class is present and not masked (R186). -/
def yardAlarm (s : State) : Bool :=
  s.held || ((s.alarmClasses.toList.zip s.link.alarmMask.toList).any fun x => x.1 && !x.2)

end Sys2Proof.Machine
end

