-- ==== Sys2Proof/Machine/Supervisor.lean ====
section
/-! DEFINITION. The command queue and the switching supervisor (chapter 5): removal of entries, selection, sending,
gathering, completion and failure of an operation in flight. -/

namespace Sys2Proof.Machine

/-! ### Entries -/

def State.entryOf (s : State) (k : StageIx) : Option QueueEntry := s.queue.find? fun e => e.stage = k

def State.hasEntry (s : State) (k : StageIx) : Bool := (s.entryOf k).isSome

def State.inFlightOf (s : State) (k : StageIx) : Option InFlight := (s.stage k).inFlight

/-- The stage has an entry queued or an operation in flight (R100). -/
def State.stageBusy (s : State) (k : StageIx) : Bool := s.hasEntry k || (s.inFlightOf k).isSome

/-- The number of operations in flight. -/
def State.flights (s : State) : Nat := (allStages.filter fun k => (s.inFlightOf k).isSome).length

/-- The number of CLOSE operations in flight (R94). -/
def State.closeFlights (s : State) : Nat :=
  (allStages.filter fun k => (s.inFlightOf k).any fun f => f.op == .close).length

/-- The yard has something queued or in flight (R100). -/
def State.yardBusy (s : State) : Bool := !s.queue.isEmpty || decide (0 < s.flights)

/-- An entry leaves the queue with a COMMAND_DROPPED notice (R88); NOT_READY carries the stage's state. -/
def State.dropEntry (s : State) (e : QueueEntry) (r : DropReason) : State :=
  State.notice { s with queue := s.queue.filter fun x => x.stage ≠ e.stage }
    (.commandDropped e r (if r = .notReady then some (s.stage e.stage).state else none))

/-! ### Selection and sending (R93 to R95) -/

/-- Close pacing allows a CLOSE (R94). -/
def State.closeAllowed (s : State) : Bool :=
  decide (s.closeFlights < s.link.closeLimit) &&
    (match s.lastClose with
     | none => true
     | some t => decide (s.link.closeGap ≤ elapsed s.now t))

/-- First pass: the oldest PROTECT entry whose stage has no operation in flight. -/
def State.protectEntry (s : State) : Option QueueEntry :=
  s.queue.find? fun e => e.cls == .protect && (s.inFlightOf e.stage).isNone

/-- Second pass over the NORMAL entries in entry order: the entry to send, if any, and the state after the removals of
CLOSE entries reached while their stage is not ready (R93). -/
def State.normalEntry (s : State) : List QueueEntry → State × Option QueueEntry
  | [] => (s, none)
  | e :: es =>
    if e.cls = .protect ∨ (s.inFlightOf e.stage).isSome then s.normalEntry es
    else if e.op = .open then (s, some e)
    else if (s.stage e.stage).state ≠ .openReady ∨ (s.stage e.stage).lockoutPending then
      (s.dropEntry e .notReady).normalEntry es
    else if s.closeAllowed then (s, some e)
    else s.normalEntry es

/-- The yard tag counter advances from 255 to 1, skipping 0 (R95). -/
def nextTag (t : Byte) : Byte := if t = 255 then 1 else t + 1

/-- The stage is under a lockout: in LOCKED_OUT, or with lockout pending (R137). -/
def lockoutKeeps (a : Stage) : Bool := a.state == .lockedOut || a.lockoutPending

/-- What sending does to the stage record: the in-flight record, CLOSING or OPENING, the moving timer stopped, "awaiting
position" cleared (R69), the operations count; a stage sent out of LOCKED_OUT keeps its lockout pending (R137; log entry
41). -/
def sendStage (s : State) (e : QueueEntry) (a : Stage) : Stage :=
  { a with
    inFlight := some ⟨e.op, s.tag, e.cls, e.origin, s.now,
      s.now + BitVec.ofNat 32 (if e.op = .close then s.link.closeTimeout else s.link.openTimeout)⟩
    state := if e.op = .close then .closing else .opening
    moving := none
    awaiting := false
    lockoutPending := lockoutKeeps a
    cfg := { a.cfg with operations := min 999999 (a.cfg.operations + 1) } }

/-- Payload of a COMMAND frame (Table 5-2). -/
def commandPayload (op : Operation) (tag : Byte) (cls : CmdClass) : List Byte :=
  be 1 (operationCode op) ++ [tag] ++ be 1 (classCode cls)

/-- Sending an entry (R95). -/
def State.sendEntry (s : State) (e : QueueEntry) : State :=
  let s1 : State := { s with
    tag := nextTag s.tag
    lastClose := if e.op = .close then some s.now else s.lastClose
    queue := s.queue.filter fun x => x.stage ≠ e.stage }
  let s2 := s1.changeStage e.stage (sendStage s e)
  s2.enterDown e.cls ((s.stage e.stage).cfg.unit.getD 0) (commandPayload e.op s.tag e.cls)

/-- Selections until nothing is sent, each needing SERVICE or FALLBACK and room in the down insert queue (R93, R103). -/
def State.select : Nat → State → State
  | 0, s => s
  | n + 1, s =>
    if s.mode = .config ∨ 8 ≤ s.portF.ins.length then s
    else match s.protectEntry with
      | some e => State.select n (s.sendEntry e)
      | none =>
        match s.normalEntry s.queue with
        | (s', some e) => State.select n (s'.sendEntry e)
        | (s', none) => s'

/-- The supervisor makes a selection (R93). Each send takes an entry out of the queue, so the queue's length bounds it. -/
def State.selection (s : State) : State := State.select (s.queue.length + 1) s

/-! ### Gathering (R88 to R91) -/

/-- The higher of two classes. -/
def maxClass (a b : CmdClass) : CmdClass := if a = .protect ∨ b = .protect then .protect else .normal

/-- The operation a position answers to; MOVING and UNKNOWN answer to none. -/
def positionOp : Position → Option Operation
  | .open => some .open
  | .closed => some .close
  | .moving | .unknown => none

/-- The position a stage is expected to reach: the target of its operation in flight, otherwise its reported position (R91). -/
def State.expected (s : State) (k : StageIx) : Option Operation :=
  match s.inFlightOf k with
  | some f => some f.op
  | none => (s.stage k).reported.bind positionOp

/-- A CLOSE is never queued for a stage in LOCKED_OUT or FAILED or with lockout pending (R91). -/
def State.closeBarred (s : State) (k : StageIx) : Bool :=
  (s.stage k).state == .lockedOut || (s.stage k).state == .failed || (s.stage k).lockoutPending

/-- Gathering of a command for a stage without an entry (R91), a CLOSE for a CLOSED stage reported MOVING included (log entry
42). An entry that joins makes a selection (R93). -/
def State.gatherFresh (s : State) (k : StageIx) (op : Operation) (cls : CmdClass) (org : Origin) : State × Gathered :=
  if (s.stage k).state = .absent then (s, .notQueued)
  else if op = .close ∧ s.closeBarred k = true then (s, .notQueued)
  else if s.expected k = some op then (s, .already)
  else (State.selection { s with queue := s.queue ++ [⟨k, op, cls, org, s.now⟩] }, .queued)

/-- An entry after a command of the same operation is merged into it (R89). -/
def mergeEntry (e : QueueEntry) (cls : CmdClass) (org : Origin) : QueueEntry :=
  { e with
    cls := maxClass e.cls cls
    origin := if e.cls = .normal ∧ cls = .protect then org else e.origin }

/-- Gathering, the one way into the queue (R88 to R91). A change of class makes a selection (R93). -/
def State.gather (s : State) (k : StageIx) (op : Operation) (cls : CmdClass) (org : Origin) : State × Gathered :=
  if s.mode = .config then (s, .notQueued)
  else match s.entryOf k with
    | none => s.gatherFresh k op cls org
    | some e =>
      if e.op = op then
        if op = .close ∧ s.closeBarred k = true then (s, .notQueued)
        else
          let s' : State := { s with queue := s.queue.map fun x => if x.stage = k then mergeEntry x cls org else x }
          (if (mergeEntry e cls org).cls = e.cls then s' else s'.selection, .merged)
      else if op = .close ∧ e.cls = .protect then (s, .notQueued)
      else (s.dropEntry e .superseded).gatherFresh k op cls org

/-! ### Satisfied entries (R92) -/

/-- Remove the stage's entry if it has become satisfied. -/
def State.testSatisfied (s : State) (k : StageIx) : State :=
  match s.entryOf k with
  | none => s
  | some e =>
    if (s.inFlightOf k).isNone && decide ((s.stage k).reported.bind positionOp = some e.op) then s.dropEntry e .satisfied
    else s

/-! ### Completion and failure (R96 to R99) -/

/-- The full length of a stage's cooldown in ms (R77). -/
def fullCooldown (a : Stage) : Nat := a.cfg.cooldown * 1000

/-- What completion does to the stage record (R97). -/
def completeStage (op : Operation) (a : Stage) : Stage :=
  match op with
  | .close => { a with inFlight := none, state := .closed, cooling := 0 }
  | .open =>
    { a with
      inFlight := none
      state := if a.lockoutPending then .lockedOut else .openCooling
      cooling := if a.cooling = 0 then fullCooldown a else a.cooling
      lockoutPending := false
      closedInCooldown := false }

/-- What failure does to the stage record (R99). -/
def failStage (a : Stage) : Stage := { a with inFlight := none, state := .failed }

/-- The operation in flight of stage `k` fails: FAILED, SWITCH_FAILURE notice, capture trigger, test of the queued entry,
selection (R99). `pre` is what the same event did to the record before (R75). -/
def State.failOperation (s : State) (k : StageIx) (f : InFlight) (r : FailReason) (pre : Stage → Stage) : State :=
  let s1 := s.changeStage k fun a => failStage (pre a)
  let s2 := s1.notice (.switchFailure k f r (s1.stage k).reported)
  let s3 := s2.trigger .switchFailure (some k) (s2.yardIx.map (·.1))
  (s3.testSatisfied k).selection

/-- The operation in flight of stage `k` completes (R97). -/
def State.completeOperation (s : State) (k : StageIx) (f : InFlight) (pre : Stage → Stage) : State :=
  ((s.changeStage k fun a => completeStage f.op (pre a)).testSatisfied k).selection

/-- An OPEN in flight of class NORMAL is raised by a trip (R136). -/
def raiseFlight (f : InFlight) : InFlight :=
  if f.op = .open ∧ f.cls = .normal then { f with cls := .protect, origin := .unbalanceTrip } else f

/-- Any entry queued or operation in flight of one of these origins (R100). -/
def State.originStands (s : State) (os : List Origin) : Bool :=
  s.queue.any (fun e => os.contains e.origin) || allStages.any (fun k => (s.inFlightOf k).any fun f => os.contains f.origin)

end Sys2Proof.Machine
end

