-- ==== Sys2Proof/Machine/Unbalance.lean ====
section
/-! DEFINITION. Unbalance protection (chapter 7): the unbalance from the phasors, the counters, alarm and trip, balance
captures, and what clears an element. -/

namespace Sys2Proof.Machine

/-! ### From phasors to unbalance (R129 to R131) -/

/-- Magnitude of a phasor given by its components. -/
def magnitude (re im : Int) : Nat := isqrt (re.natAbs * re.natAbs + im.natAbs * im.natAbs)

/-- The neutral phasor turned onto the angle of the bus phasor of magnitude `mv` (R130). -/
def rotate (nre nim vre vim : Int) (mv : Nat) : Int × Int :=
  (Int.tdiv (nre * vre + nim * vim) mv, Int.tdiv (nim * vre - nre * vim) mv)

/-- The unbalance in per-mille, the compensation subtracted when present (R131). -/
def unbalancePm (x : Int × Int) (comp : Option (Int × Int)) : Nat :=
  let c := comp.getD (0, 0)
  magnitude (x.1 - c.1) (x.2 - c.2) * 1000 / 11585

/-- The dropout of a level or limit (R132, R148). -/
def dropout (level : Nat) : Nat := level * 15 / 16

/-- A counter moved against its level, with dropout (R132, R153, R157). -/
def moveCount (count delay level value : Nat) : Nat :=
  if level ≤ value then min delay (count + 1) else if dropout level < value then count else 0

/-- A move brought the counter from one below its delay to its delay. -/
def reaches (old new delay : Nat) : Bool := decide (old + 1 = delay) && decide (new = delay)

/-! ### Flags and captures cleared (R128, R134, R143) -/

/-- A set unbalance alarm flag is cleared with its notice; a clear one stays clear without a notice (R134). -/
def State.clearAlarm (s : State) (k : StageIx) (c : ClearCause) (u : Option Nat) (w : Option WindowIx) : State :=
  if (s.stage k).unbalanceAlarm then
    (s.modStage k fun a => { a with unbalanceAlarm := false }).notice (.unbalanceAlarm k false (some c) u w)
  else s

/-- As `clearAlarm`, but kept in a lockout. -/
def State.clearAlarmUnlessLocked (s : State) (k : StageIx) (c : ClearCause) (u : Option Nat) (w : Option WindowIx) : State :=
  if lockoutKeeps (s.stage k) then s else s.clearAlarm k c u w

/-- A running balance capture is abandoned (R143). -/
def State.abandonCapture (s : State) (k : StageIx) (e : Abandon) : State :=
  match (s.stage k).unb.capture with
  | some b =>
    (s.modStage k fun a => { a with unb := { a.unb with capture := none } }).notice (.balanceAbandoned k e b.count)
  | none => s

/-- The reported position of an enabled stage has left CLOSED (R128). -/
def State.unbalanceLeftClosed (s : State) (k : StageIx) : State :=
  let s1 := s.modStage k fun a =>
    { a with unb := { a.unb with alarmCount := 0, tripCount := 0, lastU := none, lowVoltage := false } }
  (s1.clearAlarmUnlessLocked k .leftClosed none none).abandonCapture k .leftClosed

/-- Both counters start again after a change of an unbalance setting (R144). -/
def State.unbalanceSettings (s : State) (k : StageIx) : State :=
  let s1 := s.modStage k fun a => { a with unb := { a.unb with alarmCount := 0, tripCount := 0 } }
  s1.clearAlarmUnlessLocked k .settings none none

/-! ### Alarm (R133, R134) -/

/-- The alarm of a window: raised when the counter reaches its delay, cleared when it drops out. -/
def State.unbalanceAlarmStep (s : State) (k : StageIx) (old u : Nat) (w : WindowIx) : State :=
  let a := s.stage k
  if reaches old a.unb.alarmCount a.cfg.alarmDelay && !a.unbalanceAlarm then
    ((s.modStage k fun a => { a with unbalanceAlarm := true }).notice
      (.unbalanceAlarm k true none (some u) (some w))).trigger .unbalanceAlarm (some k) (some w)
  else if u ≤ dropout a.cfg.alarmLevel then s.clearAlarmUnlessLocked k .dropout (some u) (some w)
  else s

/-! ### Trip (R135 to R137) -/

/-- The PROTECT OPEN of a trip meets the work standing for the stage: gathering, and an OPEN in flight is raised (R136). -/
def State.submitTrip (s : State) (k : StageIx) : State × Gathered :=
  match s.gather k .open .protect .unbalanceTrip with
  | (s', .already) => (s'.modStage k fun a => { a with inFlight := a.inFlight.map raiseFlight }, .already)
  | r => r

/-- The trip of a window (R135), or the repeated submission of a standing one (R137). -/
def State.unbalanceTripStep (s : State) (k : StageIx) (old u : Nat) (w : WindowIx) : State :=
  let a := s.stage k
  if reaches old a.unb.tripCount a.cfg.tripDelay then
    let s1 := s.modStage k fun a => { a with lockoutPending := true }
    let r := s1.submitTrip k
    (r.1.notice (.unbalanceTrip k u w r.2)).trigger .unbalanceTrip (some k) (some w)
  else if a.unb.tripCount = a.cfg.tripDelay then (s.submitTrip k).1
  else s

/-! ### Balance capture (R141, R142) -/

/-- A running capture counts a window in which X was computed. -/
def addCapture (x : Int × Int) (b : BalanceCapture) : BalanceCapture :=
  ⟨b.count + 1, b.sumRe + x.1, b.sumIm + x.2⟩

/-- The sixteenth window stores the new compensation (R142). -/
def State.finishCapture (s : State) (k : StageIx) (w : WindowIx) : State :=
  match (s.stage k).unb.capture with
  | some b =>
    if 16 ≤ b.count then
      let re := Int.tdiv b.sumRe 16
      let im := Int.tdiv b.sumIm 16
      let cre := clampInt (-4096) 4095 re
      let cim := clampInt (-4096) 4095 im
      (s.modStage k fun a =>
        { a with cfg := { a.cfg with comp := some (cre, cim) }, unb := { a.unb with capture := none } }).notice
        (.balanceStored k cre cim (decide (cre ≠ re ∨ cim ≠ im)) w)
    else s
  | none => s

/-! ### Evaluation of a window (R127) -/

/-- The computation of a window with both phasors, the bus at or above 1000 peak counts (R130 to R142, order of R147). -/
def State.unbalanceCompute (s : State) (k : StageIx) (w : WindowIx) (x : Int × Int) : State :=
  let a := s.stage k
  let u := unbalancePm x a.cfg.comp
  let s1 := s.modStage k fun a => { a with unb := { a.unb with
    lastU := some ⟨u, x.1, x.2, w⟩
    lowVoltage := false
    alarmCount := moveCount a.unb.alarmCount a.cfg.alarmDelay a.cfg.alarmLevel u
    tripCount := moveCount a.unb.tripCount a.cfg.tripDelay a.cfg.tripLevel u
    capture := a.unb.capture.map (addCapture x) } }
  let s2 := s1.unbalanceAlarmStep k a.unb.alarmCount u w
  let s3 := s2.unbalanceTripStep k a.unb.tripCount u w
  s3.finishCapture k w

/-- The unbalance element of stage `k` evaluates window `w` (R127, R129). -/
def State.unbalanceEvaluate (s : State) (k : StageIx) (w : WindowIx) : State :=
  let a := s.stage k
  if !a.cfg.enabled || a.reported != some .closed then s
  else match s.usable (.neutralI k) w, s.usable (.busV .A) w with
    | some n, some v =>
      let mv := magnitude v.re v.im
      if mv < 1000 then s.modStage k fun a => { a with unb := { a.unb with lowVoltage := true } }
      else s.unbalanceCompute k w (rotate n.re n.im v.re v.im mv)
    | _, _ => s

end Sys2Proof.Machine
end

