-- ==== Sys2Proof/Machine/Harmonic.lean ====
section
/-! DEFINITION. Harmonic supervision (chapter 8): held windows, bus alarms, harmonic bars, stage overload, and what clears
them. A quantity is `some i` for the i-th entry of the order list and `none` for THD. -/

namespace Sys2Proof.Machine

/-! ### Quantities (Table 8-2) -/

def PhaseAlarms.get (a : PhaseAlarms) : Option Nat → QuantityState
  | some i => (a.orders[i]?).getD resetQuantity
  | none => a.thd

def PhaseAlarms.mod (a : PhaseAlarms) (q : Option Nat) (f : QuantityState → QuantityState) : PhaseAlarms :=
  match q with
  | some i => { a with orders := a.orders.modify i f }
  | none => { a with thd := f a.thd }

def State.getQuantity (s : State) (p : Phase) (q : Option Nat) : QuantityState := s.alarms[phaseIx p].get q

def State.modQuantity (s : State) (p : Phase) (q : Option Nat) (f : QuantityState → QuantityState) : State :=
  { s with alarms := s.alarms.set (phaseIx p) (s.alarms[phaseIx p].mod q f) }

/-- The bus alarm of a quantity. -/
def State.busAlarm (s : State) : Option Nat → Bool
  | some i => s.orderAlarm i
  | none => s.thdAlarm

/-- The order a quantity stands for; THD has none. -/
def State.orderOf (s : State) (q : Option Nat) : Option Nat := q.bind fun i => (s.table.orders[i]?).map (·.1)

/-- The limit of a quantity (R153). -/
def State.limitOf (s : State) : Option Nat → Nat
  | some i => ((s.table.orders[i]?).map (·.2)).getD 0
  | none => s.table.thdLimit

/-! ### Held windows (R151) -/

/-- The frequency of window `w`, carried by the BUS_VA slot of `w` (R54). -/
def State.freqAt (s : State) (w : WindowIx) : Option Freq := (s.slotFor (.busV .A) w).bind (·.freq)

/-- The per-order values and the THD a harmonic element judges at window `w`; `none` when the window is held on a ground
common to bus and stage elements (R151). -/
def State.judged (s : State) (r : Role) (w : WindowIx) : Option (List Nat × Option Nat) :=
  match s.slotFor r w, s.usable r w, s.freqAt w with
  | some x, some v, some f =>
    match v.harm with
    | some h =>
      if f.off || x.clipped || decide (h.orders.map (·.1) ≠ s.table.orders.map (·.1)) then none
      else h.values.map fun vs => (vs, h.thd)
    | none => none
  | _, _, _ => none

/-! ### Bus alarms (R153 to R155) -/

/-- The phase alarm of a quantity is raised; the bus alarm's notice and trigger follow when it was inactive (R154). -/
def State.raisePhaseAlarm (s : State) (p : Phase) (q : Option Nat) (v : Nat) (w : WindowIx) : State :=
  let s1 := s.modQuantity p q fun a => { a with alarm := true, recover := 0 }
  if s.busAlarm q then s1
  else (s1.notice (.harmonicAlarm true none (s.orderOf q) (some p) (some v) (some w))).trigger .busHarmonic none (some w)

/-- The phase alarm of a quantity clears; the bus alarm's notice follows when no other phase holds it (R155). -/
def State.clearPhaseAlarm (s : State) (p : Phase) (q : Option Nat) (v : Nat) (w : WindowIx) : State :=
  let s1 := s.modQuantity p q fun a => { a with alarm := false, recover := 0 }
  if s1.busAlarm q then s1
  else s1.notice (.harmonicAlarm false (some .recovered) (s.orderOf q) (some p) (some v) (some w))

/-- The recover count of a raised phase alarm (R155). -/
def State.recoverStep (s : State) (p : Phase) (q : Option Nat) (v : Nat) (w : WindowIx) : State :=
  let a := s.getQuantity p q
  if !a.alarm then s
  else if v ≤ dropout (s.limitOf q) then
    if s.table.recoverDelay ≤ a.recover + 1 then s.clearPhaseAlarm p q v w
    else s.modQuantity p q fun a => { a with recover := a.recover + 1 }
  else s.modQuantity p q fun a => { a with recover := 0 }

/-- One quantity of one phase is judged completely (R153 to R155). -/
def State.judgeQuantity (s : State) (p : Phase) (w : WindowIx) (q : Option Nat) (v : Nat) : State :=
  let a := s.getQuantity p q
  let c := moveCount a.count s.table.alarmDelay (s.limitOf q) v
  let s1 := s.modQuantity p q fun a => { a with count := c }
  let s2 := if reaches a.count c s.table.alarmDelay && !a.alarm then s1.raisePhaseAlarm p q v w else s1
  s2.recoverStep p q v w

/-- The orders of a phase are judged in the order of the list, from position `i` on. -/
def State.judgeOrders (p : Phase) (w : WindowIx) : Nat → List Nat → State → State
  | _, [], s => s
  | i, v :: vs, s => State.judgeOrders p w (i + 1) vs (s.judgeQuantity p w (some i) v)

/-! ### Bars (R160) -/

/-- A set harmonic bar is cleared with its notice; its count becomes 0. -/
def State.clearBar (s : State) (k : StageIx) (w : Option WindowIx) : State :=
  if (s.stage k).bar then
    (s.modStage k fun a => { a with bar := false, barCount := 0 }).notice (.harmonicOverload k .barCleared none none w none)
  else s

/-- The bar count of a stage after a BUS_VA window that is not held. -/
def State.barStep (w : WindowIx) (k : StageIx) (s : State) : State :=
  if !(s.stage k).bar then s
  else if s.anyBusAlarm then s.modStage k fun a => { a with barCount := 0 }
  else if s.table.recoverDelay ≤ (s.stage k).barCount + 1 then s.clearBar k (some w)
  else s.modStage k fun a => { a with barCount := a.barCount + 1 }

/-- The bus harmonic element of a phase evaluates window `w` (R151, R153 to R155, R160, R163). -/
def State.busHarmonicEvaluate (s : State) (p : Phase) (w : WindowIx) : State :=
  match s.judged (.busV p) w with
  | none => s
  | some (vs, thd) =>
    let s1 := State.judgeOrders p w 0 vs s
    let s2 := match thd with
      | some t => s1.judgeQuantity p w none t
      | none => s1
    if p = .A then s2.forStages (State.barStep w) else s2

/-! ### Stage overload (R157 to R159) -/

/-- A set harmonic overload flag is cleared with its notice (R159). -/
def State.clearOverload (s : State) (k : StageIx) (c : ClearCause) : State :=
  if (s.stage k).overload then
    (s.modStage k fun a => { a with overload := false }).notice (.harmonicOverload k .cleared (some c) none none none)
  else s

/-- The overload counter has reached its delay (R158). -/
def State.overloadReached (s : State) (k : StageIx) (t : Nat) (w : WindowIx) : State :=
  let was := (s.stage k).overload
  let s1 := s.modStage k fun a => { a with overload := true }
  let r := s1.gather k .open .normal .harmonicRemoval
  let s2 := r.1.modStage k fun a => { a with bar := true, barCount := 0 }
  if was then s2 else s2.notice (.harmonicOverload k .raised none (some t) (some w) (some r.2))

/-- The overload counter of a stage is moved by a judged window (R157). -/
def State.overloadStep (s : State) (k : StageIx) (t : Nat) (w : WindowIx) : State :=
  let a := s.stage k
  let c := moveCount a.overCount a.cfg.thdDelay a.cfg.thdLimit t
  let s1 := s.modStage k fun a => { a with overCount := c }
  if reaches a.overCount c a.cfg.thdDelay then s1.overloadReached k t w
  else if t ≤ dropout a.cfg.thdLimit then s1.clearOverload k .dropout
  else s1

/-- The stage harmonic element of stage `k` evaluates window `w` (R152). -/
def State.stageHarmonicEvaluate (s : State) (k : StageIx) (w : WindowIx) : State :=
  let a := s.stage k
  if !a.cfg.enabled || a.cfg.thdLimit == 0 || a.reported != some .closed then s
  else match s.judged (.stageI k) w with
    | some (_, some t) => s.overloadStep k t w
    | _ => s

/-- The reported position of an enabled stage has left CLOSED (R152, R159). -/
def State.harmonicLeftClosed (s : State) (k : StageIx) : State :=
  (s.modStage k fun a => { a with overCount := 0 }).clearOverload k .leftClosed

/-- The stage THD limit or delay has changed (R66, R157, R159). -/
def State.overloadSettings (s : State) (k : StageIx) : State :=
  (s.modStage k fun a => { a with overCount := 0 }).clearOverload k .settings

/-- What the elements do when the reported position of an enabled stage leaves CLOSED (R128, R152), the unbalance element
first, its alarm before its balance capture (log entry 14). -/
def State.leftClosed (s : State) (k : StageIx) : State := (s.unbalanceLeftClosed k).harmonicLeftClosed k

end Sys2Proof.Machine
end

