-- ==== Sys2Proof/Machine/Voltage.lean ====
section
/-! DEFINITION. Voltage control (chapter 6): the control voltage, dead line and restoration, fast removal, the band
accumulator, candidates and the step decision. -/

namespace Sys2Proof.Machine

def State.modVc (s : State) (f : VoltageState → VoltageState) : State := { s with vc := f s.vc }

def ControlSet.upper (c : ControlSet) : Nat := c.setpoint + c.halfBand

def ControlSet.lower (c : ControlSet) : Nat := c.setpoint - c.halfBand

/-- The accumulator to 0, the withheld mark clear, and the settle hold at full length (R108, R109, R117, R122). -/
def restartHold (hold : Nat) (v : VoltageState) : VoltageState := { v with acc := 0, withheld := .clear, hold := hold }

/-! ### Control voltage (R110) -/

/-- The selected phases. -/
def selectedPhases (p : PhaseSet) : List Phase :=
  (if p.a then [.A] else []) ++ (if p.b then [.B] else []) ++ (if p.c then [.C] else [])

/-- RMS values of the selected phases usable for `w`. -/
def State.phaseValues (s : State) (w : WindowIx) : List Nat :=
  (selectedPhases s.phases).filterMap fun p => (s.usable (.busV p) w).map (·.rms)

/-! ### Candidates (R115, R116) -/

/-- A stage qualifies for removal (R115). -/
def State.removable (s : State) (k : StageIx) : Bool :=
  let a := s.stage k
  a.state == .closed && !a.blocked && !a.silent && !s.hasEntry k

/-- An ailing stage comes first for removal (R115). -/
def State.ailing (s : State) (k : StageIx) : Bool := (s.stage k).unbalanceAlarm || (s.stage k).overload

/-- The removal candidate (R115). -/
def State.removalCandidate (s : State) : Option StageIx :=
  let q := s.inService.filter s.removable
  match q.find? s.ailing with
  | some k => some k
  | none => q.head?

/-- A stage meets the conditions of R116. -/
def State.insertable (s : State) (k : StageIx) : Bool :=
  let a := s.stage k
  a.state == .openReady && !a.blocked && !a.silent && !a.lockoutPending && !s.hasEntry k
    && s.currentlyServed (.neutralI k) && !a.bar && !s.resonanceBar k

/-- Lower rank first, then lower operations count (R116); on equality the first of the two stands. -/
def State.precedes (s : State) (j k : StageIx) : Bool :=
  let a := (s.stage j).cfg
  let b := (s.stage k).cfg
  decide (a.rank < b.rank ∨ (a.rank = b.rank ∧ a.operations < b.operations))

/-- The better of a candidate so far and a later stage index. -/
def State.better (s : State) (best : Option StageIx) (k : StageIx) : Option StageIx :=
  match best with
  | none => some k
  | some j => if s.precedes k j then some k else some j

/-- The insertion candidate (R116); none while the dead-line latch is set. -/
def State.insertionCandidate (s : State) : Option StageIx :=
  if s.vc.latch then none else (allStages.filter s.insertable).foldl s.better none

/-! ### Step 1: dead line and restoration (R120 to R122) -/

/-- The dead count after step 1 (R120). -/
def deadCountOf (c : ControlSet) (full : Bool) (vc count : Nat) : Nat :=
  if c.deadLevel ≤ vc then 0 else if full then min 65535 (count + 1) else count

/-- The stages a dead line opens, in in-service list order (R121). -/
def State.deadLineStages (s : State) : List StageIx :=
  s.inService.filter fun k => (s.stage k).cfg.enabled && (s.stage k).reported == some .closed

/-- A PROTECT OPEN of origin DEAD_LINE for each of the stages. -/
def State.submitDeadLine (ks : List StageIx) (s : State) : State :=
  ks.foldl (fun s k => (s.gather k .open .protect .deadLine).1) s

/-- A window in which the dead count stands at its delay (R121). -/
def State.deadLineOpening (s : State) (vc : Nat) (w : WindowIx) : State :=
  let ks := s.deadLineStages
  let s1 := s.submitDeadLine ks
  if s.vc.latch then s1
  else
    ((s1.modVc fun v => { v with latch := true }).notice (.deadLine false w vc (some ks.length))).trigger
      .deadLine none (some w)

/-- The restore count while the latch is set, and the clearing of the latch (R122); a partly measured window at or above the
restore level clears nothing, whatever the count and the delay in force (R108, log entry 48). -/
def State.restoreStep (s : State) (c : ControlSet) (full : Bool) (vc : Nat) (w : WindowIx) : State :=
  if !s.vc.latch then s
  else if vc < c.restoreLevel then s.modVc fun v => { v with restoreCount := 0 }
  else if !full then s
  else if c.restoreDelay ≤ s.vc.restoreCount + 1 then
    (s.modVc fun v => restartHold c.settleHold { v with latch := false, restoreCount := 0 }).notice
      (.deadLine true w vc none)
  else s.modVc fun v => { v with restoreCount := v.restoreCount + 1 }

def State.deadLineStep (s : State) (c : ControlSet) (full : Bool) (vc : Nat) (w : WindowIx) : State :=
  let s1 := s.modVc fun v => { v with deadCount := deadCountOf c full vc v.deadCount }
  let s2 := if c.deadDelay ≤ s1.vc.deadCount then s1.deadLineOpening vc w else s1
  s2.restoreStep c full vc w

/-! ### Step 2: fast removal (R118, R119) -/

/-- The overvoltage count, the episode and the fast interval count (R118). -/
def overvoltage (c : ControlSet) (vc : Nat) (v : VoltageState) : VoltageState :=
  if vc ≤ c.vmax then { v with overCount := 0, fastCount := 0, fastPending := false }
  else if v.overCount = 0 then { v with overCount := 1 }
  else if v.overCount = 1 then { v with overCount := 2, fastPending := true }
  else if v.fastPending then v
  else if c.fastInterval ≤ v.fastCount + 1 then { v with fastPending := true, fastCount := 0 }
  else { v with fastCount := v.fastCount + 1 }

/-- A pending fast removal is tried; the flag says that it was taken (R119). -/
def State.tryFastRemoval (s : State) : State × Bool :=
  if !s.vc.fastPending || s.originStands [.fastRemoval] then (s, false)
  else match s.removalCandidate with
    | none => (s, false)
    | some k =>
      match s.gather k .open .normal .fastRemoval with
      | (s', .queued) =>
        (s'.modVc fun v => { v with fastPending := false, fastCount := 0, acc := 0, withheld := .clear }, true)
      | (s', _) => (s', false)

/-! ### Step 3: the accumulator (R112, R113) -/

/-- The accumulator after an unheld window (R113). -/
def moveAcc (c : ControlSet) (vc : Nat) (acc : Int) : Int :=
  if c.upper < vc then min c.level (max acc 0 + (vc - c.upper : Nat))
  else if vc < c.lower then max (-c.level) (min acc 0 - (c.lower - vc : Nat))
  else if 0 ≤ acc then max 0 (acc - c.leak)
  else min 0 (acc + c.leak)

/-- Integration in a window that is not held (R113). -/
def integrate (c : ControlSet) (vc : Nat) (v : VoltageState) : VoltageState :=
  let a := moveAcc c vc v.acc
  { v with acc := a, withheld := if a.natAbs < c.level then .clear else v.withheld }

/-! ### Step 4: the step decision (R114, R117) -/

/-- A step that is due is withheld. -/
def State.withhold (s : State) (m : Withheld) : State := s.modVc fun v => { v with withheld := m }

/-- A step that passed its prediction is submitted; QUEUED takes it (R117). -/
def State.submitStep (s : State) (c : ControlSet) (k : StageIx) (op : Operation) (m : Withheld) : State :=
  match s.gather k op .normal .voltage with
  | (s', .queued) => s'.modVc (restartHold c.settleHold)
  | (s', _) => s'.withhold m

/-- A removal is due at +Q. -/
def State.removalStep (s : State) (c : ControlSet) (vc : Nat) : State :=
  match s.removalCandidate with
  | some k => if c.lower + (s.stage k).cfg.effect ≤ vc then s.submitStep c k .open .high else s.withhold .high
  | none => s.withhold .high

/-- An insertion is due at −Q. -/
def State.insertionStep (s : State) (c : ControlSet) (vc : Nat) : State :=
  match s.insertionCandidate with
  | some k => if vc + (s.stage k).cfg.effect ≤ c.upper then s.submitStep c k .close .low else s.withhold .low
  | none => s.withhold .low

/-- The step decision (R114). -/
def State.stepDecision (s : State) (c : ControlSet) (vc : Nat) : State :=
  let stands := s.originStands [.voltage, .fastRemoval]
  if s.vc.acc = c.level then if stands then s.withhold .high else s.removalStep c vc
  else if s.vc.acc = -c.level then if stands then s.withhold .low else s.insertionStep c vc
  else s

/-- Steps 3 and 4 of a window: the settle hold, or the accumulator and the step decision (R112 to R114). -/
def State.bandStep (s : State) (c : ControlSet) (vc : Nat) : State :=
  if 0 < s.vc.hold then s.modVc fun v => { v with hold := v.hold - 1 }
  else (s.modVc (integrate c vc)).stepDecision c vc

/-! ### Evaluation of a window (R110, R111) -/

/-- A missing window (R111). -/
def State.voltageMissing (s : State) (w : WindowIx) : State :=
  let s1 := s.modVc fun v => { v with missing := min 50 (v.missing + 1) }
  if s.vc.missing + 1 = 50 ∧ s.vc.ctl = .active then
    (s1.modVc fun v => { v with ctl := .suspended }).notice (.suspended false w)
  else s1

/-- A SUSPENDED control state resumes (R111). -/
def State.voltageResume (s : State) (w : WindowIx) : State :=
  if s.vc.ctl = .suspended then
    (s.modVc fun v => { v with ctl := .active, acc := 0, withheld := .clear }).notice (.suspended true w)
  else s

/-- The four steps of a window that is not missing, on the settings of the set in force (R110). -/
def State.voltageSteps (s : State) (full : Bool) (vc : Nat) (w : WindowIx) : State :=
  let c := s.forceSet
  let s1 := s.deadLineStep c full vc w
  let r := (s1.modVc (overvoltage c vc)).tryFastRemoval
  if r.2 then r.1 else r.1.bandStep c vc

/-- Voltage control evaluates window `w` (R110). -/
def State.voltageEvaluate (s : State) (w : WindowIx) : State :=
  let vs := s.phaseValues w
  if vs = [] then s.voltageMissing w
  else
    let vc := vs.sum / vs.length
    let s1 := s.modVc fun v => { v with lastVc := some (vc, w), missing := 0 }
    (s1.voltageResume w).voltageSteps (decide (vs.length = (selectedPhases s.phases).length)) vc w

end Sys2Proof.Machine
end

