-- ==== Sys2Proof/Machine/Evaluation.lean ====
section
/-! DEFINITION. Evaluation of windows by the elements (R58 to R61) and the handover of a closed window (R41, R44). -/

namespace Sys2Proof.Machine

/-- The roles an element needs (Table 3-2); voltage control's follow the phase selection (R106). -/
def State.needed (s : State) : Element → List Role
  | .voltage => (selectedPhases s.phases).map .busV
  | .unbalance k => [.neutralI k, .busV .A]
  | .busHarmonic p => [.busV p]
  | .stageHarmonic k => [.stageI k]

/-- Window `w` can be evaluated: every needed role has a result for it, or one has a result ahead of it, in the slots as they
stand, a result from before the element's start included (R58, R59; log entry 46). -/
def State.evaluable (s : State) (e : Element) (w : WindowIx) : Bool :=
  !(s.needed e).isEmpty &&
    ((s.needed e).all (fun r => (s.slotFor r w).isSome) || (s.needed e).any (fun r => s.slotAhead r w))

/-- The element evaluates window `w`, by its own chapter. -/
def State.evaluate (s : State) : Element → WindowIx → State
  | .voltage, w => s.voltageEvaluate w
  | .unbalance k, w => s.unbalanceEvaluate k w
  | .busHarmonic p, w => s.busHarmonicEvaluate p w
  | .stageHarmonic k, w => s.stageHarmonicEvaluate k w

/-- The test of R59, made again after each evaluation, at most once round the 2048 window indices (log entry 23). -/
def State.evaluateFrom : Nat → Element → State → State
  | 0, _, s => s
  | n + 1, e, s =>
    match (s.eval e).cand with
    | none => s
    | some w =>
      if s.evaluable e w then
        State.evaluateFrom n e ((s.evaluate e w).modEval e fun _ => ⟨some w, some (w + 1), some s.now⟩)
      else s

/-- The first result published while an element has no window sets its candidate (R58). -/
def firstCandidate (w : WindowIx) (a : EvalState) : EvalState :=
  if a.last = none ∧ a.cand = none then { a with cand := some w } else a

/-- A result for window `w` has been published for a role the element needs (R58, R59). -/
def State.elementSees (w : WindowIx) (s : State) (e : Element) : State :=
  if s.running then State.evaluateFrom 2048 e (s.modEval e (firstCandidate w)) else s

/-- The elements that need a role, in the order the model lets them evaluate (log entry 11). -/
def State.elementsOf (s : State) : Role → List Element
  | .busV p =>
    (if p ∈ selectedPhases s.phases then [.voltage] else [])
      ++ (if p = .A then allStages.map .unbalance else []) ++ [.busHarmonic p]
  | .stageI k => [.stageHarmonic k]
  | .neutralI k => [.unbalance k]

/-- A window is handed over: last handed-over window, computation and publication, capture, elements (R41, R44, R165, R59;
log entry 12). -/
def State.handOver (s : State) (r : Role) (c : ClosedWindow) : State :=
  let s1 := s.modRole r fun a => { a with handed := some (c.w, s.now) }
  let s2 := (s1.compute r c).captureTake r c
  (s2.elementsOf r).foldl (State.elementSees c.w) s2

/-- An element is started (R58). -/
def startedEval (now : PartTime) : EvalState := ⟨none, none, some now⟩

/-- 10 s after an element last evaluated or was started, its windows become absent, once (R59). -/
def State.evaluationTimeout (s : State) (e : Element) : State :=
  match (s.eval e).since with
  | none => s
  | some t => if s.running && decide (10000 ≤ elapsed s.now t) then s.modEval e fun _ => resetEval else s

end Sys2Proof.Machine
end

