-- ==== Sys2Proof/Machine/Answers.lean ====
section
/-! DEFINITION. Answers to requests: outcomes, reasons and the REPLY frame (Tables 11-1 and 11-2, R189). -/

namespace Sys2Proof.Machine

/-- Reasons of a refusal, and `none` (Table 11-1). -/
inductive Reason where
  | none | mode | busy | state | cooling | locked | full | duplicate | nomap | index | length | unknown
  deriving DecidableEq, Repr

inductive Verdict where
  | done | clamped | refused
  deriving DecidableEq, Repr

/-- What a reply carries after the echoed request header. -/
structure Answer where
  verdict : Verdict
  reason : Reason
  already : Bool
  position : Byte
  data : List Byte
  deriving DecidableEq, Repr

def reasonCode : Reason → Byte
  | .none => 0 | .mode => 1 | .busy => 2 | .state => 3 | .cooling => 4 | .locked => 5 | .full => 6
  | .duplicate => 7 | .nomap => 8 | .index => 9 | .length => 10 | .unknown => 11

def verdictCode : Verdict → Byte
  | .done => 0 | .clamped => 1 | .refused => 2

/-- Carried out, with this data; CLAMPED when a value was brought into range. -/
def carried (brought : Bool) (data : List Byte) : Answer := ⟨if brought then .clamped else .done, .none, false, 255, data⟩

def doneWith (data : List Byte) : Answer := carried false data

/-- DONE with the "already" mark; used where the owning rule names it (R101, R102, R179; log entry 53). -/
def doneAlready : Answer := ⟨.done, .none, true, 255, []⟩

def refused (r : Reason) : Answer := ⟨.refused, r, false, 255, []⟩

/-- A refusal that carries a position (Table 11-1). -/
def refusedAt (r : Reason) (p : Byte) : Answer := ⟨.refused, r, false, p, []⟩

/-- The payload of a reply (Table 11-1). -/
def replyPayload (kind : Byte) (num : BitVec 16) (a : Answer) : List Byte :=
  [kind] ++ be 2 num.toNat ++ [verdictCode a.verdict, reasonCode a.reason, if a.already then 1 else 0, a.position] ++ a.data

/-- The reply enters the up insert queue (R189, R190). -/
def State.reply (s : State) (rq : Requester) (kind : Byte) (restart : Bool) (a : Answer) : State :=
  s.enterUp (.reply restart) 0x31 rq.source (replyPayload kind rq.number a)

/-- Management executes a request and forms its reply (R188, R189). -/
def State.answer (s : State) (rq : Requester) (kind : Byte) (f : State → State × Answer) : State :=
  (f s).1.reply rq kind false (f s).2

/-- A request row of the table: the execution of that request, which no part held in reset and no forwarding-only part
makes (R3, R183; log entry 9). -/
def State.request (s : State) (rq : Requester) (kind : Byte) (f : State → State × Answer) : State :=
  if s.held || !s.fullNode then s else s.answer rq kind f

end Sys2Proof.Machine
end

