-- ==== Sys2Proof/Machine/Intake.lean ====
section
/-! DEFINITION. Sample intake (chapter 2): the ordering test, source supervision, scaling, window assembly, the yard window
index and the intake timeouts. -/

namespace Sys2Proof.Machine

/-! ### The SAMPLE payload (Table 2-1) -/

inductive Quality where
  | good | questionable | invalid
  deriving DecidableEq, Repr

/-- A quality value other than 0, 1 or 2 is taken as INVALID (R20). -/
def qualityOf (b : Byte) : Quality := if b = 0 then .good else if b = 1 then .questionable else .invalid

/-- A SAMPLE frame that is not malformed. -/
structure SampleFrame where
  counter : SampleCounter
  quality : Quality
  values : List Int
  deriving DecidableEq, Repr

/-- The slot values of a payload. -/
def slotValuesOf (bs : List Byte) (n : Nat) : List Int := (List.range n).map fun i => (wordAt bs (4 + 2 * i)).toInt

/-- Read a SAMPLE payload; `none` is malformed (R20). -/
def readSample (bs : List Byte) : Option SampleFrame :=
  let n := (byteAt bs 3).toNat
  if 1 ≤ n ∧ n ≤ 16 ∧ bs.length = 4 + 2 * n then
    some ⟨wordAt bs 0, qualityOf (byteAt bs 2), slotValuesOf bs n⟩
  else none

/-! ### Source supervision (R27 to R31) -/

def State.modSource (s : State) (a : Byte) (f : Source → Source) : State :=
  { s with sources := s.sources.map fun x => if x.addr = a then f x else x }

/-- A record entering NEW (R27). -/
def newSource (a : Byte) (now : PartTime) : Source := ⟨a, .new, none, now, 0, none, 0⟩

/-- The frame is accepted: no last counter, or a difference of 1 to 32767 (R31). -/
def acceptable (last : Option SampleCounter) (c : SampleCounter) : Bool :=
  match last with
  | none => true
  | some l => decide (1 ≤ (c - l).toNat) && decide ((c - l).toNat ≤ 32767)

/-- The last counter of its window. -/
def closesWindow (c : SampleCounter) : Bool := decide (c.toNat % 32 = 31)

/-- The frame can stand in a complete window of its source: not INVALID, every slot present that the map names as the frame
arrives (R29; log entry 35). -/
def qualifies (m : List MapEntry) (a : Byte) (f : SampleFrame) : Bool :=
  f.quality != .invalid && (m.filter fun e => e.source = a).all fun e => decide (e.slot.val < f.values.length)

/-- The streak when a frame of window `v` arrives: 0 when an earlier window never got its last counter, be it the window
of the last accepted frame or one that the counter jumped (R29; log entry 24). -/
def carriedStreak (x : Source) (v : WindowIx) : Nat :=
  match x.window, x.last with
  | some u, some l => if u = v ∨ (u + 1 = v ∧ closesWindow l) then x.streak else 0
  | _, _ => x.streak

/-- The window tracking of a source at an accepted frame (R29, R31). -/
def trackSource (x : Source) (f : SampleFrame) (ok : Bool) (now : PartTime) : Source :=
  let v := windowOf f.counter
  let n := (if x.window = some v then x.qualified else 0) + (if ok then 1 else 0)
  let k := carriedStreak x v
  { x with
    last := some f.counter
    arrival := now
    window := some v
    qualified := n
    streak := if closesWindow f.counter then (if n = 32 then min 4 (k + 1) else 0) else k }

/-- A NEW or LOST source whose streak is 4 becomes HEALTHY (R30). -/
def healSource (x : Source) : Source := if x.streak = 4 then { x with status := .healthy } else x

/-- Step 1 of an accepted frame: tracking, and any change of the source's state with its notice (R29, R30). -/
def State.sourceFrame (s : State) (x : Source) (f : SampleFrame) : State :=
  let y := healSource (trackSource x f (qualifies s.map x.addr f) s.now)
  let s1 := s.modSource x.addr fun _ => y
  if x.status = y.status then s1 else s1.notice (.source x.addr y.status)

/-! ### Scaling (R34) -/

/-- The scaled sample before saturation. -/
def scaledRaw (raw : Int) (gain : BitVec 16) : Int := raw * gain.toNat / 4096

/-- The sample of an entry: missing (R32), or scaled and saturated with its clipped mark (R34). -/
def entrySample (e : MapEntry) (f : SampleFrame) : Option (Int × Bool) :=
  if f.quality = .invalid then none
  else (f.values[e.slot.val]?).map fun raw =>
    (clampInt (-32768) 32767 (scaledRaw raw e.gain),
      decide (clampInt (-32768) 32767 (scaledRaw raw e.gain) ≠ scaledRaw raw e.gain))

/-! ### Window assembly (R36 to R39, R41) -/

/-- The entry that serves an open window. -/
def servingEntry (m : List MapEntry) (r : Role) : ServedBy → Option MapEntry
  | .primary => primaryOf m r
  | .backup => backupOf m r
  | .none => none

/-- The choice made at the opening of a window (R36). -/
def State.chooseServing (s : State) (r : Role) : ServedBy :=
  if (primaryOf s.map r).any fun e => s.sourceHealthy e.source then .primary
  else if (backupOf s.map r).any fun e => s.sourceHealthy e.source then .backup
  else .none

def emptyPositions : List (Option Int) := List.replicate 32 none

/-- A role's open window closes and is handed over. At its last counter it is complete when every position holds a sample
(R38); closed by a jump or a lost source it is incomplete (R39). -/
def State.closeWindow (atLast : Bool) (s : State) (r : Role) : State :=
  match (s.role r).openWin with
  | none => s
  | some o =>
    (s.modRole r fun a => { a with openWin := none }).handOver r
      ⟨o.w, o.by_, atLast && o.pos.all (·.isSome), o.clipped, o.questionable, o.pos⟩

/-- A role opens window `w`; not served, it is handed over empty at once (R36, R41). -/
def State.openRoleWindow (s : State) (r : Role) (w : WindowIx) : State :=
  match s.chooseServing r with
  | .none => s.handOver r ⟨w, .none, false, false, false, emptyPositions⟩
  | b => s.modRole r fun a => { a with openWin := some ⟨w, b, emptyPositions, false, false⟩ }

/-- The serving entry's sample is stored in the open window (R33, R34, R37); no other position changes, the skipped ones
included, which are missing unless the counter has come round the 2048 windows (log entry 52). -/
def storeSample (e : MapEntry) (f : SampleFrame) (o : OpenWindow) : OpenWindow :=
  let n := f.counter.toNat % 32
  match entrySample e f with
  | none => { o with pos := o.pos.set n none }
  | some (x, clip) =>
    { o with
      pos := o.pos.set n (some x)
      clipped := o.clipped || clip
      questionable := o.questionable || f.quality == .questionable }

/-- An accepted frame of the serving source in the open window: stored, and the last counter closes (R37, R38). -/
def State.storeFrame (s : State) (r : Role) (e : MapEntry) (f : SampleFrame) : State :=
  let s1 := s.modRole r fun a => { a with openWin := a.openWin.map (storeSample e f) }
  if closesWindow f.counter then State.closeWindow true s1 r else s1

/-- The opening by a frame of one of the role's sources (R36), its own sample stored if it comes from the serving entry. -/
def State.openByFrame (s : State) (r : Role) (src : Byte) (f : SampleFrame) : State :=
  let w := windowOf f.counter
  let may := match (s.role r).handed with
    | none => true
    | some (h, _) => ahead w h
  if !may then s
  else
    let s1 := s.openRoleWindow r w
    match (s1.role r).openWin with
    | none => s1
    | some o =>
      match servingEntry s1.map r o.by_ with
      | some e => if e.source = src then s1.storeFrame r e f else s1
      | none => s1

/-- Window assembly of one role at an accepted frame of source `src` (R36 to R39). A window neither equal to the open one nor
ahead of it counts as earlier, the one 1024 away too (R35, R37; log entry 51). -/
def State.roleFrame (src : Byte) (f : SampleFrame) (s : State) (r : Role) : State :=
  match (s.role r).openWin with
  | none => s.openByFrame r src f
  | some o =>
    match servingEntry s.map r o.by_ with
    | none => s
    | some e =>
      if e.source ≠ src then s
      else if windowOf f.counter = o.w then s.storeFrame r e f
      else if ahead (windowOf f.counter) o.w then (State.closeWindow false s r).openByFrame r src f
      else s

/-- The mapped roles with an entry of a source, in map order (log entry 10). -/
def rolesOfSource (m : List MapEntry) (a : Byte) : List Role :=
  (mappedRoles m).filter fun r => (entriesOf m r).take 2 |>.any fun e => e.source = a

/-! ### The yard window index (R40) -/

/-- The role is examined when the index takes the value `y`. -/
def examined (a : RoleState) (y : WindowIx) : Bool :=
  a.openWin.isNone &&
    (match a.handed with
     | none => true
     | some (h, _) => h != y - 1 && !ahead h (y - 1))

def State.examineRole (y : WindowIx) (s : State) (r : Role) : State :=
  if examined (s.role r) y then s.openRoleWindow r (y - 1) else s

/-- An accepted frame of a HEALTHY source sets or advances the yard window index (R40). -/
def State.yardFrame (s : State) (src : Byte) (w : WindowIx) : State :=
  let moves := match s.yardIx with
    | none => true
    | some (y, _) => ahead w y
  if s.sourceHealthy src && moves then
    (mappedRoles s.map).foldl (State.examineRole w) { s with yardIx := some (w, s.now) }
  else s

/-! ### A SAMPLE frame consumed from port F (R20, R31) -/

/-- The three steps of an accepted frame, in their order (R31). -/
def State.acceptSample (s : State) (x : Source) (f : SampleFrame) : State :=
  let s1 := s.sourceFrame x f
  let s2 := (rolesOfSource s1.map x.addr).foldl (State.roleFrame x.addr f) s1
  s2.yardFrame x.addr (windowOf f.counter)

/-- Sample intake receives a SAMPLE frame (R20, R31); the ordering test of R31 holds for a LOST source too, once it has a last
counter again (R28; log entry 36). -/
def State.sampleFrame (s : State) (src : Byte) (payload : List Byte) : State :=
  match s.source? src with
  | none => s
  | some x =>
    match readSample payload with
    | none => { s with malformedSamples := bump s.malformedSamples }
    | some f =>
      if acceptable x.last f.counter then s.acceptSample x f
      else { s with lateSamples := bump s.lateSamples }

/-! ### Timeouts (R28, R40, R41) -/

/-- The roles whose open window is served by an entry of the source. -/
def State.servedFrom (s : State) (a : Byte) : List Role :=
  (mappedRoles s.map).filter fun r =>
    match (s.role r).openWin with
    | some o => (servingEntry s.map r o.by_).any fun e => e.source = a
    | none => false

/-- A source in NEW or HEALTHY whose last accepted frame is 8 ms old becomes LOST (R28). -/
def State.loseSource (s : State) (a : Byte) : State :=
  match s.source? a with
  | none => s
  | some x =>
    if x.status ≠ .lost ∧ 8 ≤ elapsed s.now x.arrival then
      let s1 := s.modSource a fun y => { y with status := .lost, streak := 0, last := none, window := none, qualified := 0 }
      let s2 := s1.notice (.source a .lost)
      (s2.servedFrom a).foldl (State.closeWindow false) s2
    else s

/-- The yard window index becomes absent 10 s after it was last set or advanced (R40). -/
def State.yardTimeout (s : State) : State :=
  match s.yardIx with
  | some (_, t) => if 10000 ≤ elapsed s.now t then { s with yardIx := none } else s
  | none => s

/-- A role's last handed-over window becomes absent 10 s after it was taken (R41). -/
def State.handedTimeout (s : State) (r : Role) : State :=
  match (s.role r).handed with
  | some (_, t) => if 10000 ≤ elapsed s.now t then s.modRole r fun a => { a with handed := none } else s
  | none => s

end Sys2Proof.Machine
end

