-- ==== Sys2Proof/Machine/StageTable.lean ====
section
/-! DEFINITION. The stage table (chapter 4): POSITION frames, the moving timer, unit silence, cooldowns, and the requests
READ STAGE, WRITE STAGE, BLOCK, UNBLOCK and RELEASE. -/

namespace Sys2Proof.Machine

/-! ### POSITION reports (R67 to R73) -/

/-- A tag result (Table 5-1). -/
inductive TagResult where
  | none | accepted | refused
  deriving DecidableEq, Repr

/-- A POSITION frame that is not malformed. -/
structure PositionReport where
  pos : Position
  tag : Byte
  result : TagResult
  deriving DecidableEq, Repr

def tagResultOfCode (b : Byte) : Option TagResult :=
  if b = 0 then some .none else if b = 1 then some .accepted else if b = 2 then some .refused else Option.none

/-- Read a POSITION payload; `none` is malformed (R67, Table 5-1). -/
def readPosition (bs : List Byte) : Option PositionReport :=
  match bs with
  | [p, t, r] => (positionOfCode p).bind fun pos => (tagResultOfCode r).map fun res => ⟨pos, t, res⟩
  | _ => none

/-- Step 1 of R67: reported and stable position, arrival time; the unit silence timer measures from it (R76). -/
def reportStage (pos : Position) (now : PartTime) (a : Stage) : Stage :=
  { a with
    reported := some pos
    arrival := some now
    silenceFrom := now
    stable := if pos = .open ∨ pos = .closed then some pos else a.stable }

/-- The in-service list after a report (R68). -/
def inServiceAfter (l : List StageIx) (k : StageIx) (was : Option Position) (pos : Position) : List StageIx :=
  if pos = .closed then (if was = some .closed then l else l ++ [k])
  else if was = some .closed then l.erase k else l

/-- The limit a moving timer is started with (R73). -/
def movingLimit (l : LinkSettings) (stable : Option Position) : Nat :=
  match stable with
  | some .open => l.closeTimeout
  | some .closed => l.openTimeout
  | _ => max l.closeTimeout l.openTimeout

/-- The moving timer at a report, with or without an operation in flight (R73). -/
def movingAfter (l : LinkSettings) (pos : Position) (now : PartTime) (a : Stage) : Option MovingTimer :=
  if pos = .moving then
    if a.moving = none ∧ a.inFlight = none ∧ a.state ≠ .failed then some ⟨now, movingLimit l a.stable⟩ else a.moving
  else none

/-- What every accepted report does to an enabled record: unit-silent cleared, the moving timer, and the full cooldown
when the stable position turns from CLOSED to OPEN (R67, R73, R77). `was` is the stable position before. -/
def seenStage (l : LinkSettings) (was : Option Position) (pos : Position) (now : PartTime) (a : Stage) : Stage :=
  { a with
    silent := false
    moving := movingAfter l pos now a
    cooling := if was = some .closed ∧ pos = .open then fullCooldown a else a.cooling }

/-- A report of OPEN with nothing in flight (R69, R70). -/
def openReport (was : Option Position) (a : Stage) : Stage :=
  if a.awaiting then { a with state := .openCooling, cooling := fullCooldown a, awaiting := false }
  else
    let b := { a with closedInCooldown := if was = some .closed then false else a.closedInCooldown }
    if a.state = .closed then
      { b with
        state := if a.lockoutPending then .lockedOut else .openCooling
        cooling := fullCooldown a
        lockoutPending := false }
    else b

/-- A report of CLOSED with nothing in flight (R69, R71). -/
def closedReport (m : Mode) (a : Stage) : Stage :=
  if a.awaiting then { a with state := .closed, cooling := 0, awaiting := false }
  else match a.state with
    | .openReady => { a with state := .closed, cooling := 0 }
    | .openCooling => { a with state := .closed, cooling := 0, closedInCooldown := true }
    | .lockedOut =>
      { a with
        state := if m = .config then .failed else .closed
        cooling := 0
        lockoutPending := true
        closedInCooldown := if 0 < a.cooling then true else a.closedInCooldown }
    | _ => a

/-- FAILED by a report of UNKNOWN or by the moving timer; out of LOCKED_OUT the lockout stays pending (R69, R72, R73, R137;
log entry 41). -/
def lostStage (a : Stage) : Stage := { a with state := .failed, awaiting := false, lockoutPending := lockoutKeeps a }

/-- A report of UNKNOWN with nothing in flight (R72). -/
def unknownReport (a : Stage) : Stage := if a.state = .absent ∨ a.state = .failed then a else lostStage a

/-- The state change of a report with nothing in flight. -/
def reactStage (m : Mode) (was : Option Position) (pos : Position) (a : Stage) : Stage :=
  match pos with
  | .open => openReport was a
  | .closed => closedReport m a
  | .moving => a
  | .unknown => unknownReport a

/-- The report closes the stage within its cooldown, and what remained of it (R71). -/
def closedWithin (pos : Position) (a : Stage) : Option Nat :=
  if pos = .closed ∧ a.awaiting = false ∧ (a.state = .openCooling ∨ (a.state = .lockedOut ∧ 0 < a.cooling)) then
    some a.cooling
  else none

/-- The stage was closed out of LOCKED_OUT in SERVICE or FALLBACK: it is opened again (R71). -/
def State.reopen (s : State) (k : StageIx) (pos : Position) (a : Stage) : State :=
  if pos = .closed ∧ a.awaiting = false ∧ a.state = .lockedOut ∧ s.mode ≠ .config then
    (s.gather k .open .protect .unbalanceTrip).1
  else s

/-- A report for an enabled stage with nothing in flight (R69 to R73, R92). `a` is the record after step 1. -/
def State.reportIdle (s : State) (k : StageIx) (was : Option Position) (pos : Position) (a : Stage) : State :=
  let s1 := s.changeStage k fun b => reactStage s.mode was pos (seenStage s.link was pos s.now b)
  let s2 := s1.reopen k pos a
  let s3 := match closedWithin pos a with
    | some ms => s2.notice (.closedInCooldown k ms)
    | none => s2
  s3.testSatisfied k

/-- A report for a stage with an operation in flight, handed to the supervisor (R96). -/
def State.reportFlight (s : State) (k : StageIx) (was : Option Position) (r : PositionReport) (f : InFlight) : State :=
  let pre := seenStage s.link was r.pos s.now
  if r.tag = f.tag ∧ r.result = .accepted ∧ positionOp r.pos = some f.op then s.completeOperation k f pre
  else if r.tag = f.tag ∧ r.result = .refused then s.failOperation k f .refused pre
  else if r.pos = .unknown then s.failOperation k f .unknown pre
  else s.changeStage k pre

/-- One record handles an accepted POSITION frame (R67); the elements then see a stage leave CLOSED (R128, R152),
which one already reported MOVING has done before (log entry 43). -/
def State.positionRecord (r : PositionReport) (s : State) (k : StageIx) : State :=
  let a := s.stage k
  let s1 := s.modStage k (reportStage r.pos s.now)
  let s2 : State := { s1 with inService := inServiceAfter s1.inService k a.reported r.pos }
  if !a.cfg.enabled then s2
  else
    let s3 := match a.inFlight with
      | some f => s2.reportFlight k a.stable r f
      | none => s2.reportIdle k a.stable r.pos (s2.stage k)
    if a.reported = some .closed ∧ r.pos ≠ .closed then s3.leftClosed k else s3

/-- The stage table receives a POSITION frame from source address `src` (R67); several records of one unit handle it in
index order (log entry 10). -/
def State.positionFrame (s : State) (src : Byte) (payload : List Byte) : State :=
  match readPosition payload with
  | none => { s with malformedPositions := bump s.malformedPositions }
  | some r => (allStages.filter fun k => (s.stage k).cfg.unit = some src).foldl (State.positionRecord r) s

/-! ### Timers (R73, R76, R78) -/

/-- The moving timer of a stage has reached its limit (R73; out of LOCKED_OUT, log entry 41). -/
def State.movingExpiry (s : State) (k : StageIx) : State :=
  match (s.stage k).moving with
  | some m =>
    if (s.stage k).cfg.enabled && decide (m.limit ≤ elapsed s.now m.start) then
      s.changeStage k fun a => { lostStage a with moving := none }
    else s
  | none => s

/-- The position-silence time has passed without a POSITION frame (R76). -/
def State.silenceExpiry (s : State) (k : StageIx) : State :=
  if (s.stage k).cfg.enabled && !(s.stage k).silent && decide (s.link.silence ≤ elapsed s.now (s.stage k).silenceFrom) then
    s.changeStage k fun a => { a with silent := true }
  else s

/-- The fallback tick phase after a tick, and whether the tick is skipped (R78). -/
def phaseTick (c : ClockSource) (ph : Nat) : Nat × Bool :=
  match c with
  | .reference => (ph, false)
  | .internal => if ph + 1 < 16 then (ph + 1, false) else (0, true)

/-- A counted tick on one record's cooldown (R78, R79). -/
def coolStage (a : Stage) : Stage :=
  if a.cfg.enabled && !a.awaiting then { a with cooling := a.cooling - 1 } else a

/-- The cooldowns at a tick of the time base. -/
def State.coolTick (s : State) : State :=
  let p := phaseTick s.clock s.tickPhase
  { s with tickPhase := p.1, stages := if p.2 then s.stages else s.stages.map coolStage }

/-- A stage in OPEN_COOLING whose cooldown has run out enters OPEN_READY, which makes a selection (R78, R93). -/
def State.cooldownOver (s : State) (k : StageIx) : State :=
  let a := s.stage k
  if a.cfg.enabled && a.state == .openCooling && !a.awaiting && a.cooling == 0 then
    (s.changeStage k fun a => { a with state := .openReady }).selection
  else s

/-! ### WRITE STAGE (R64 to R66) -/

/-- A list without its repetitions, each entry at its first place; a set of Table 4-1 is kept in that order (log entry 20). -/
def distinct (l : List Nat) : List Nat := l.foldl (fun acc x => if x ∈ acc then acc else acc ++ [x]) []

/-- The settings as they stand after R64's clamping. -/
def clampedStage (w : StageWrite) : StageSettings :=
  let al := clampNat 1 500 w.alarmLevel.toNat
  { enabled := w.enabled
    unit := if w.unit = 0 then none else if w.unit = 255 then some 254 else some w.unit
    rank := clampNat 0 23 w.rank.toNat
    effect := clampNat 1 200 w.effect.toNat
    cooldown := clampNat 10 1200 w.cooldown.toNat
    alarmLevel := al
    alarmDelay := clampNat 1 600 w.alarmDelay.toNat
    tripLevel := max (al + 1) (clampNat 1 1000 w.tripLevel.toNat)
    tripDelay := clampNat 1 600 w.tripDelay.toNat
    comp := w.compensation.map fun c => (clampInt (-4096) 4095 c.1.toInt, clampInt (-4096) 4095 c.2.toInt)
    orders := distinct (w.orders.map (·.toNat))
    thdLimit := clampNat 0 1000 w.thdLimit.toNat
    thdDelay := clampNat 1 600 w.thdDelay.toNat
    operations := clampNat 0 999999 w.operations.toNat }

/-- Some setting of the request was brought into range (R64); repeated orders do not count. -/
def stageBrought (w : StageWrite) : Bool :=
  let c := clampedStage w
  decide (w.unit = 255 ∨ c.rank ≠ w.rank.toNat ∨ c.effect ≠ w.effect.toNat ∨ c.cooldown ≠ w.cooldown.toNat
    ∨ c.alarmLevel ≠ w.alarmLevel.toNat ∨ c.alarmDelay ≠ w.alarmDelay.toNat ∨ c.tripLevel ≠ w.tripLevel.toNat
    ∨ c.tripDelay ≠ w.tripDelay.toNat ∨ c.comp ≠ w.compensation.map (fun c => (c.1.toInt, c.2.toInt))
    ∨ c.thdLimit ≠ w.thdLimit.toNat ∨ c.thdDelay ≠ w.thdDelay.toNat ∨ c.operations ≠ w.operations.toNat)

/-- The reported position as a change of the unit address leaves it (R65, R66). -/
def reportedAfter (a : Stage) (c : StageSettings) : Option Position := if a.cfg.unit = c.unit then a.reported else none

/-- The checks of R65 after the index, in the order of its table. -/
def State.writeStageCheck (s : State) (k : StageIx) (c : StageSettings) : Option Reason :=
  let a := s.stage k
  let readdressed := decide (a.cfg.unit ≠ c.unit)
  let disables := a.cfg.enabled && !c.enabled
  let moves := a.cfg.enabled && c.enabled && readdressed
  if c.orders.any (fun h => decide (h < 2 ∨ 15 < h)) then some .index
  else if c.enabled && c.unit.isNone then some .index
  else if s.running && s.stageBusy k then some .busy
  else if (disables || moves) && (a.state == .lockedOut || a.state == .failed || a.lockoutPending) then some .locked
  else if disables && !(a.reported == none || a.reported == some .open) then some .state
  else if moves && (s.running || !(a.reported == none || a.reported == some .open)) then some .state
  else if !a.cfg.enabled && c.enabled && s.running
      && !(reportedAfter a c == some .open || reportedAfter a c == some .closed) then some .state
  else if c.enabled && allStages.any (fun j => j != k && (s.stage j).cfg.enabled && (s.stage j).cfg.unit == c.unit) then
    some .duplicate
  else none

/-- The record with its unit address changed (R66). -/
def readdressStage (a : Stage) : Stage := { a with reported := none, stable := none, arrival := none, moving := none }

/-- An enabled stage awaits its position with the full cooldown held (R66, R69). -/
def awaitStage (now : PartTime) (a : Stage) : Stage :=
  { a with state := .openCooling, awaiting := true, cooling := fullCooldown a, silenceFrom := now }

/-- Enabling sets the state from the reported position (R66). -/
def enableStage (now : PartTime) (a : Stage) : Stage :=
  match a.reported with
  | some .open => { a with state := .openCooling, cooling := fullCooldown a, silenceFrom := now }
  | some .closed => { a with state := .closed, cooling := 0, silenceFrom := now }
  | some .unknown => { a with state := .failed, silenceFrom := now }
  | some .moving | none => awaitStage now a

/-- Disabling (R66); the flags of chapters 7 and 8 are cleared by their own operations. -/
def disableStage (a : Stage) : Stage :=
  { a with
    state := .absent
    cooling := 0
    awaiting := false
    silent := false
    closedInCooldown := false
    moving := none }

/-- The record after the settings are stored and the address, enabling and disabling have acted (R66). A cooldown held while a
position is awaited keeps its length (log entry 37). -/
def writtenStage (now : PartTime) (c : StageSettings) (a : Stage) : Stage :=
  let b := if a.cfg.unit = c.unit then a else readdressStage a
  let d := { b with cfg := c }
  if !a.cfg.enabled && c.enabled then enableStage now d
  else if a.cfg.enabled && !c.enabled then disableStage d
  else if c.enabled && decide (a.cfg.unit ≠ c.unit) then awaitStage now d
  else d

/-- An unbalance level or delay differs (R144). -/
def unbalanceDiffers (a b : StageSettings) : Bool :=
  decide (a.alarmLevel ≠ b.alarmLevel ∨ a.alarmDelay ≠ b.alarmDelay ∨ a.tripLevel ≠ b.tripLevel ∨ a.tripDelay ≠ b.tripDelay)

/-- The stage THD limit or delay differs (R66). -/
def thdDiffers (a b : StageSettings) : Bool := decide (a.thdLimit ≠ b.thdLimit ∨ a.thdDelay ≠ b.thdDelay)

/-- A WRITE STAGE that is carried out (R66, R143, R144, R159, R160). -/
def State.applyStage (s : State) (k : StageIx) (c : StageSettings) : State :=
  let a := s.stage k
  let s1 : State := if a.cfg.unit = c.unit then s else { s with inService := s.inService.erase k }
  let s2 := s1.changeStage k (writtenStage s.now c)
  let s3 := if a.cfg.enabled && !c.enabled then
      ((s2.clearAlarm k .disabled none none).clearOverload k .disabled).clearBar k none
    else s2
  let s4 := if unbalanceDiffers a.cfg c then s3.unbalanceSettings k else s3
  let s5 := if thdDiffers a.cfg c then s4.overloadSettings k else s4
  s5.abandonCapture k .write

/-- WRITE STAGE. A list of more than 14 orders is outside R64's list and refused LENGTH (R188); every refusal carries the
stage index (Table 11-1). -/
def State.doWriteStage (stage : Byte) (w : StageWrite) (s : State) : State × Answer :=
  if 14 < w.orders.length then (s, refusedAt .length stage)
  else match stageOfByte stage with
  | none => (s, refusedAt .index stage)
  | some k =>
    match s.writeStageCheck k (clampedStage w) with
    | some r => (s, refusedAt r stage)
    | none => (s.applyStage k (clampedStage w), carried (stageBrought w) [])

/-! ### READ STAGE (R80) -/

/-- The settings of a stage as stored (Table 4-1). -/
def encSettings (c : StageSettings) : List Byte :=
  encFlag c.enabled ++ [c.unit.getD 0] ++ be 1 c.rank ++ be 1 c.effect ++ be 2 c.cooldown ++ be 2 c.alarmLevel
    ++ be 2 c.alarmDelay ++ be 2 c.tripLevel ++ be 2 c.tripDelay
    ++ encOpt 4 (c.comp.map fun x => beInt 2 x.1 ++ beInt 2 x.2)
    ++ be 1 c.orders.length ++ (c.orders.map (be 1)).flatten ++ be 2 c.thdLimit ++ be 2 c.thdDelay ++ be 3 c.operations

def operationTarget : Operation → Position
  | .open => .open
  | .close => .closed

/-- The target position (R80). -/
def State.targetPosition (s : State) (k : StageIx) : Option Position :=
  match s.entryOf k with
  | some e => some (operationTarget e.op)
  | none =>
    match s.inFlightOf k with
    | some f => some (operationTarget f.op)
    | none => (s.stage k).reported

/-- A stage's place in the in-service list. -/
def State.place (s : State) (k : StageIx) : Option Nat := s.inService.findIdx? fun j => j = k

def State.encStage (s : State) (k : StageIx) : List Byte :=
  let a := s.stage k
  encSettings a.cfg ++ be 1 (stageStateCode a.state) ++ encPosition a.reported
    ++ optBe 4 (a.arrival.map (·.toNat)) ++ encPosition a.stable
    ++ encFlag a.awaiting ++ encFlag a.silent ++ encFlag a.closedInCooldown ++ encFlag a.lockoutPending
    ++ encFlag a.blocked ++ encFlag a.unbalanceAlarm ++ encFlag a.overload ++ encFlag a.bar
    ++ encFlag (s.resonanceBar k) ++ encFlag a.moving.isSome ++ be 3 a.cooling ++ optBe 1 (s.place k)
    ++ encPosition (s.targetPosition k)

def State.doReadStage (stage : Byte) (s : State) : State × Answer :=
  match stageOfByte stage with
  | none => (s, refused .index)
  | some k => (s, doneWith (s.encStage k))

/-! ### BLOCK and UNBLOCK (R81) -/

/-- The blocked flag takes the value; the reply is DONE without the ALREADY mark, also when the flag had it (R81; log entry
53). -/
def State.doBlock (value : Bool) (stage : Byte) (s : State) : State × Answer :=
  match stageOfByte stage with
  | none => (s, refused .index)
  | some k => (s.changeStage k fun a => { a with blocked := value }, doneWith [])

/-! ### RELEASE (R82, R83) -/

/-- The refusal of a RELEASE, if any (R82, R83). -/
def State.releaseCheck (s : State) (k : StageIx) : Option Reason :=
  let a := s.stage k
  if a.state = .lockedOut then (if a.reported = some .open then none else some .state)
  else if a.state = .failed then
    if s.stageBusy k then some .state
    else if a.reported = some .closed ∧ a.lockoutPending = true then some .locked
    else if a.reported = some .open ∨ a.reported = some .closed then none
    else some .state
  else some .state

/-- The record after a RELEASE that is carried out (R82, R83). -/
def releasedStage (a : Stage) : Stage :=
  let b := { a with closedInCooldown := false, moving := none }
  if a.state = .lockedOut then { b with state := if a.cooling = 0 then .openReady else .openCooling }
  else if a.reported = some .closed then { b with state := .closed, cooling := 0 }
  else
    { b with
      state := if a.lockoutPending then .lockedOut else .openCooling
      cooling := fullCooldown a
      lockoutPending := false }

/-- A RELEASE that is carried out; a stage that enters OPEN_READY makes a selection (R83, R93). -/
def State.applyRelease (s : State) (k : StageIx) : State :=
  let s1 := s.changeStage k releasedStage
  let s2 := (((s1.clearAlarm k .release none none).clearOverload k .release).clearBar k none).abandonCapture k .release
  if (s1.stage k).state = .openReady then s2.selection else s2

def State.doRelease (stage : Byte) (s : State) : State × Answer :=
  match stageOfByte stage with
  | none => (s, refused .index)
  | some k =>
    match s.releaseCheck k with
    | some r => (s, refused r)
    | none => (s.applyRelease k, doneWith [])

/-! ### ENTER SERVICE on the stage table (R84) -/

/-- The full cooldown at ENTER SERVICE for an enabled stage reported OPEN. -/
def serviceStage (a : Stage) : Stage :=
  { a with
    cooling := fullCooldown a
    state := if a.state = .openReady then .openCooling else a.state }

def State.serviceCooldown (k : StageIx) (s : State) : State :=
  if (s.stage k).cfg.enabled && (s.stage k).reported == some .open then s.changeStage k serviceStage else s

end Sys2Proof.Machine
end

