-- ==== Sys2Proof/Machine/Control.lean ====
section
/-! DEFINITION. Part control and the supervisor's timers: switch timeout and close gap, manual switching, balance capture
requests, the time base and its clock, the part modes, the watchdog, the resets and start-up (chapters 5, 7 and 10). -/

namespace Sys2Proof.Machine

/-- An event of the part's own takes place only while the part is not held in reset (R183). -/
def State.live (s : State) (f : State → State) : State := if s.held then s else f s

/-! ### Supervisor timers (R94, R98) -/

/-- The deadline of an operation in flight has been reached (R98, differences by R181). -/
def deadlineReached (now : PartTime) (f : InFlight) : Bool := decide ((f.deadline - f.sent).toNat ≤ elapsed now f.sent)

/-- The tick at or beyond the deadline of stage `k`'s operation (R98). -/
def State.switchTimeout (k : StageIx) (s : State) : State :=
  match s.inFlightOf k with
  | some f => if deadlineReached s.now f then s.failOperation k f .timeout id else s
  | none => s

/-- The tick at which the close gap runs out (R94; R181: that very tick, log entry 8). -/
def State.closeGapDue (s : State) : Bool :=
  match s.lastClose with
  | some t => decide (elapsed s.now t = s.link.closeGap)
  | none => false

def State.closeGapExpiry (s : State) : State := if s.closeGapDue then s.selection else s

/-! ### Manual switching (R101, R102) -/

/-- The answer to a manual request that was gathered. -/
def gatherAnswer : Gathered → Answer
  | .queued | .merged => doneWith []
  | .already => doneAlready
  | .notQueued => refused .locked

/-- The checks of R101 after the index. -/
def State.manualCloseCheck (s : State) (k : StageIx) : Option Reason :=
  if s.mode = .config then some .mode
  else if (s.stage k).state = .absent then some .state
  else if (s.inFlightOf k).isSome then some .busy
  else if s.closeBarred k then some .locked
  else if (s.stage k).state = .openCooling then some .cooling
  else none

/-- A manual request that passes its checks is gathered. -/
def State.gatherManual (s : State) (k : StageIx) (op : Operation) : State × Answer :=
  let r := s.gather k op .normal .manual
  (r.1, gatherAnswer r.2)

def State.doManualClose (stage : Byte) (s : State) : State × Answer :=
  match stageOfByte stage with
  | none => (s, refused .index)
  | some k =>
    match s.manualCloseCheck k with
    | some r => (s, refused r)
    | none => s.gatherManual k .close

def State.doManualOpen (stage : Byte) (s : State) : State × Answer :=
  match stageOfByte stage with
  | none => (s, refused .index)
  | some k =>
    if s.mode = .config then (s, refused .mode)
    else if (s.stage k).state = .absent then (s, refused .state)
    else s.gatherManual k .open

/-! ### CAPTURE BALANCE (R140) -/

/-- The checks of R140 after the index; a stage closed with lockout pending is refused STATE (log entry 40), a CLOSED stage
reported MOVING is not (log entry 43). -/
def State.captureBalanceCheck (s : State) (k : StageIx) : Option Reason :=
  let a := s.stage k
  if s.mode = .config then some .mode
  else if a.state ≠ .closed ∨ a.lockoutPending = true then some .state
  else if a.unb.lowVoltage || s.unsupervised k then some .state
  else if a.unb.capture.isSome then some .busy
  else none

def State.doCaptureBalance (stage : Byte) (s : State) : State × Answer :=
  match stageOfByte stage with
  | none => (s, refused .index)
  | some k =>
    match s.captureBalanceCheck k with
    | some r => (s, refused r)
    | none => (s.modStage k fun a => { a with unb := { a.unb with capture := some ⟨0, 0, 0⟩ } }, doneWith [])

/-! ### Time base and clock (R181, R182) -/

/-- A tick of the time base: part time, the 16 ms measurement, the cooldowns (R181, R182, R78). -/
def State.tick (s : State) : State :=
  State.coolTick { s with
    now := s.now + 1
    recovery := if s.clock = .internal then min 17 (s.recovery + 1) else s.recovery }

/-- The clock source changes, with its notice. -/
def State.changeClock (s : State) (c : ClockSource) : State :=
  State.notice { s with clock := c, recovery := 0 } (.clock c)

/-- No reference edge for 2 µs. -/
def State.referenceLoss (s : State) : State := if s.clock = .reference then s.changeClock .internal else s

/-- The tick that follows 16 ms of reference edges without a gap (R182): the 17th from the loss, gap or start that came
before the first of those edges, at the earliest. That tick itself was still one of the internal clock (log entry 27). -/
def State.referenceReturn (s : State) : State :=
  if s.clock = .internal ∧ 17 ≤ s.recovery then s.changeClock .reference else s

/-- A gap of 2 µs during the 16 ms. -/
def State.referenceGap (s : State) : State := if s.clock = .internal then { s with recovery := 0 } else s

/-! ### Management watchdog (R180) -/

/-- The watchdog becomes RUNNING from now, or OFF with a timeout of 0. -/
def State.restartWatchdog (s : State) : State :=
  { s with watchdog := if s.link.watchdog = 0 then .off else .running s.now }

/-! ### Part modes (R176 to R179) -/

/-- What starting the elements does to a stage's unbalance and overload state (R145, R161). -/
def startStage (a : Stage) : Stage := { a with unb := resetUnbalance, overCount := 0 }

/-- The counters of a quantity start again; its phase alarm stands (R161). -/
def startQuantity (q : QuantityState) : QuantityState := { q with count := 0, recover := 0 }

/-- The element of a phase starts; its phase alarms stand, where its role is unmapped too (R161; log entry 49). -/
def startPhase (a : PhaseAlarms) : PhaseAlarms := ⟨a.orders.map startQuantity, startQuantity a.thd⟩

/-- Every element is started (R58, R109, R145, R161). -/
def State.startElements (s : State) : State :=
  { s with
    evals := Vector.replicate 52 (startedEval s.now)
    vc := { resetVoltage with ctl := .active, hold := s.setA.settleHold }
    stages := s.stages.map startStage
    alarms := s.alarms.map startPhase }

/-- The lowest enabled stage whose reported position `ok` refuses. -/
def State.badStage (s : State) (ok : Option Position → Bool) : Option StageIx :=
  allStages.find? fun k => (s.stage k).cfg.enabled && !ok (s.stage k).reported

/-- The checks of R177. -/
def State.enterServiceCheck (s : State) : Option Answer :=
  if s.running then some (refused .mode)
  else if !mapped s.map (.busV .A) then some (refused .nomap)
  else (s.badStage fun p => p == some .open || p == some .closed).map fun k => refusedAt .state (BitVec.ofNat 8 k.val)

/-- ENTER SERVICE carried out (R177), the stages in index order (R84; log entry 14). -/
def State.applyEnterService (s : State) : State :=
  let s1 := (State.forStages { s with mode := .service } State.serviceCooldown).startElements
  s1.selection.notice (.mode s.mode .service false)

def State.doEnterService (s : State) : State × Answer :=
  match s.enterServiceCheck with
  | some a => (s, a)
  | none => (s.applyEnterService, doneWith [])

/-- The checks of R178. -/
def State.enterConfigCheck (s : State) : Option Answer :=
  if s.mode = .config then some (refused .mode)
  else if s.yardBusy then some (refused .busy)
  else (s.badStage fun p => p == some .open).map fun k => refusedAt .state (BitVec.ofNat 8 k.val)

/-- Capture at ENTER CONFIG (R174). -/
def configCapture (c : CaptureState) : CaptureState :=
  match c.status with
  | .disarmed | .armed => { c with store := [] }
  | .recording | .held => c

/-- ENTER CONFIG carried out (R178). -/
def State.applyEnterConfig (s : State) : State :=
  State.notice { s with mode := .config, vc := { s.vc with ctl := .stopped }, cap := configCapture s.cap }
    (.mode s.mode .config false)

def State.doEnterConfig (s : State) : State × Answer :=
  match s.enterConfigCheck with
  | some a => (s, a)
  | none => (s.applyEnterConfig, doneWith [])

/-- The queue loses its MANUAL entries, in queue order (R103; log entry 14). -/
def State.dropManual (s : State) : State :=
  (s.queue.filter fun e => e.origin == .manual).foldl (fun s e => s.dropEntry e .fallback) s

/-- A change between SERVICE and FALLBACK: the mode with its notice, the loss of the MANUAL entries, voltage control, in the
order of the worked sequence of section 10.2, then the selection (R179; log entry 15). -/
def State.changeForce (s : State) (m : Mode) (byWatchdog : Bool) : State :=
  let s1 := State.notice { s with mode := m } (.mode s.mode m byWatchdog)
  let s2 := if m = .fallback then s1.dropManual else s1
  (s2.modVc (restartHold s2.forceSet.settleHold)).selection

def State.doForceFallback (s : State) : State × Answer :=
  match s.mode with
  | .config => (s, refused .mode)
  | .service => (s.changeForce .fallback false, doneWith [])
  | .fallback => (s, doneAlready)

def State.doResume (s : State) : State × Answer :=
  match s.mode with
  | .config => (s, refused .mode)
  | .service => (s, doneAlready)
  | .fallback => (s.changeForce .service false, doneWith [])

/-- The first tick at which the watchdog's timeout has passed (R180). -/
def State.watchdogExpiry (s : State) : State :=
  match s.watchdog with
  | .running t =>
    if s.link.watchdog * 1000 ≤ elapsed s.now t then
      let s1 : State := { s with watchdog := .expired }
      if s.mode = .service then s1.changeForce .fallback true else s1
    else s
  | .off | .expired => s

/-! ### Resets (R183, R184, R19, R43, R63, R86, R87, R104, R125, R126, R146, R162, R175) -/

/-- The line of a port whose sending is cut off without check bytes. -/
def cutLine (q : PortState) : List SentCopy :=
  match q.tx, q.buf.head? with
  | .transit sent, some slot => ⟨slot.bytes.take sent, .cutOff⟩ :: q.line
  | .insert f sent, _ => ⟨f.bytes.take sent, .cutOff⟩ :: q.line
  | _, _ => q.line

/-- The last byte of a copy that is ended poisoned for a failed check or a RESTART: not before the byte being sent, not
beyond what has been received (log entry 5). -/
def poisonEnd (fresh sent received : Nat) : Nat := min received (sent + 1 + Config.freePoisonLength fresh)

/-- The line of a port at a RESTART: a transit copy is ended poisoned (R19). -/
def poisonLine (fresh : Nat) (q : PortState) : List SentCopy :=
  match q.tx, q.buf.head? with
  | .transit sent, some slot => poisonedCopy slot.bytes (poisonEnd fresh sent slot.bytes.length) :: q.line
  | _, _ => cutLine q

/-- A POWER_ON, SUPPLY_LOW or PIN reset: all state and all settings (R183). -/
def State.clearAll (s : State) (c : ResetKind) : State :=
  { State.reset with
    resetCause := c
    portS := { resetPort with line := cutLine s.portS }
    portF := { resetPort with line := cutLine s.portF }
    fresh := s.fresh
    pending := s.pending }

/-- A SUPPLY_LOW or PIN condition: a further condition within a reset period changes nothing but a RESTART (R183). -/
def State.conditionReset (s : State) (c : ResetKind) : State :=
  if s.held ∧ s.resetCause ≠ .restart then s else s.clearAll c

/-- A stage record after RESTART (R87). -/
def restartStage (a : Stage) : Stage :=
  let b : Stage := { resetStage with cfg := a.cfg }
  if a.cfg.enabled then { b with state := .openCooling, awaiting := true, cooling := fullCooldown a } else b

/-- The part enters a reset of kind RESTART: settings kept, live state cleared (R184). -/
def State.enterRestart (s : State) : State :=
  { State.reset with
    resetCause := .restart
    link := s.link
    portS := { resetPort with line := poisonLine s.fresh s.portS }
    portF := { resetPort with line := poisonLine (s.fresh + 1) s.portF }
    map := s.map
    sources := s.sources.map fun x => newSource x.addr 0
    stages := s.stages.map restartStage
    setA := s.setA
    setB := s.setB
    phases := s.phases
    table := s.table
    alarms := Vector.replicate 3 ⟨s.table.orders.map fun _ => resetQuantity, resetQuantity⟩
    cap := { resetCapture with mode := s.cap.mode, preCount := s.cap.preCount, mask := s.cap.mask }
    fresh := s.fresh + 2
    pending := s.pending }

/-- The RESTART request (R198): its reply is formed while the RESTART becomes pending, and a reply discarded at creation
makes it take effect at once (R184). -/
def State.restartRequest (s : State) (rq : Requester) : State :=
  if s.yardBusy || s.restartPending then s.reply rq 0x44 false (refused .busy)
  else
    let s1 := State.reply { s with restartPending := true } rq 0x44 true (doneWith [])
    if s.upRoom then s1 else s1.enterRestart

/-! ### Start-up (R185) -/

/-- Release from reset: the pins' address, the time base, the ports, CONFIG, the START and CLOCK notices. -/
def State.startUp (s : State) (pins : Byte) (reference upS upF : Bool) : State :=
  if !s.held then s
  else
    let s1 : State := { s with
      held := false
      addr := pins
      now := 0
      clock := if reference then .reference else .internal
      recovery := 0
      portS := { s.portS with up := upS }
      portF := { s.portF with up := upF }
      mode := .config }
    let s2 := s1.restartWatchdog.notice (.start s.resetCause pins)
    if reference then s2 else s2.notice (.clock .internal)

end Sys2Proof.Machine
end

