-- ==== Sys2Proof/Machine/Management.lean ====
section
/-! DEFINITION. The requests that read and write the part's tables (chapters 2, 3, 6, 8, 9 and 11): READ STATUS, READ
MEASUREMENTS, the counters, the channel map, WRITE CONTROL, WRITE HARMONIC, WRITE LINK and the capture requests. -/

namespace Sys2Proof.Machine

/-- A list field that always fits its reply. -/
def encList (es : List (List Byte)) : List Byte := be 1 es.length ++ es.flatten

/-! ### READ STATUS (R191 to R193) -/

def encSource (x : Source) : List Byte :=
  [x.addr] ++ be 1 (sourceCode x.status) ++ be 1 x.streak ++ optBe 2 (x.last.map (·.toNat))

/-- The PART section (R191). -/
def State.statusPart (s : State) : List Byte :=
  be 1 (modeCode s.mode) ++ be 1 (resetCode s.resetCause) ++ [s.addr] ++ be 4 s.now.toNat
    ++ be 1 (clockCode s.clock) ++ encFlag s.clockFallback
    ++ be 2 s.link.watchdog ++ be 1 (watchdogCode s.watchdog)
    ++ s.alarmClasses.toList.flatMap encFlag ++ s.link.alarmMask.toList.flatMap encFlag ++ encFlag (yardAlarm s)
    ++ be 1 s.queue.length ++ be 1 s.flights ++ be 1 s.closeFlights ++ [s.tag] ++ optBe 4 (s.lastClose.map (·.toNat))
    ++ encWindow (s.yardIx.map (·.1)) ++ encList (s.sources.map encSource) ++ be 1 (captureCode s.cap.status)

def State.doStatusPart (s : State) : State × Answer := (s, doneWith s.statusPart)

/-- The code of the set in force: A, B, none (R123; log entry 19). -/
def setCode : Option SetId → Nat
  | some .A => 0 | some .B => 1 | none => 2

def encPhases (p : PhaseSet) : List Byte := encFlag p.a ++ encFlag p.b ++ encFlag p.c

/-- The CONTROL section (R192, R123). -/
def State.statusControl (s : State) : List Byte :=
  let v := s.vc
  be 1 (controlCode v.ctl) ++ be 1 (setCode s.setInForce) ++ beInt 3 v.acc ++ be 1 (withheldCode v.withheld)
    ++ be 2 v.hold ++ encOpt 4 (v.lastVc.map fun x => be 2 x.1 ++ be 2 x.2.toNat) ++ encFlag v.latch
    ++ be 1 v.missing ++ encFlag v.fastPending ++ be 2 v.deadCount ++ be 2 v.restoreCount
    ++ encWindow (s.eval .voltage).last ++ encPhases s.phases

def State.doStatusControl (s : State) : State × Answer := (s, doneWith s.statusControl)

/-- The summary of one stage (R193). -/
def State.stageSummary (s : State) (k : StageIx) : List Byte :=
  let a := s.stage k
  be 1 k.val ++ be 1 (stageStateCode a.state) ++ encPosition a.reported
    ++ encFlag a.blocked ++ encFlag a.silent ++ encFlag a.lockoutPending ++ encFlag a.awaiting
    ++ encFlag a.closedInCooldown ++ encFlag a.unbalanceAlarm ++ encFlag a.overload ++ encFlag a.bar
    ++ encFlag (s.resonanceBar k) ++ encFlag (s.unsupervised k)
    ++ encFlag a.unb.lowVoltage ++ encOpt 4 (a.unb.lastU.map fun u => be 2 u.pm ++ be 2 u.w.toNat)
    ++ be 2 a.unb.alarmCount ++ be 2 a.unb.tripCount
    ++ encFlag a.unb.capture.isSome ++ be 1 ((a.unb.capture.map (·.count)).getD 0)
    ++ be 2 a.overCount ++ be 2 a.barCount
    ++ optBe 1 ((s.entryOf k).map fun e => operationCode e.op) ++ optBe 1 (a.inFlight.map fun f => operationCode f.op)
    ++ optBe 1 (s.place k) ++ be 3 a.cooling

/-- The STAGES section: up to 6 stages from a first one (R193). -/
def State.statusStages (s : State) (k : StageIx) : List Byte :=
  encList (((allStages.drop k.val).take 6).map s.stageSummary)

def State.doStatusStages (first : Byte) (s : State) : State × Answer :=
  match stageOfByte first with
  | none => (s, refused .index)
  | some k => (s, doneWith (s.statusStages k))

/-- A phase alarm with its counters; raised is sent as a flag (R187; log entry 54). -/
def encQuantity (q : QuantityState) : List Byte := encFlag q.alarm ++ be 2 q.count ++ be 2 q.recover

/-- The entry of one quantity in the HARMONIC section (R192); an active bus alarm is sent as a set flag (log entry 54). -/
def State.quantityEntry (s : State) (q : Option Nat) : List Byte :=
  encOrder (s.orderOf q) ++ encFlag (s.busAlarm q) ++ encQuantity (s.getQuantity .A q)
    ++ encQuantity (s.getQuantity .B q) ++ encQuantity (s.getQuantity .C q)

/-- The HARMONIC section: each order of the list, then THD. -/
def State.statusHarmonic (s : State) : List Byte :=
  encList (((List.range s.table.orders.length).map some ++ [none]).map s.quantityEntry)

def State.doStatusHarmonic (s : State) : State × Answer := (s, doneWith s.statusHarmonic)

def encChannel (c : Channel) : List Byte := be 1 (roleCode c.role) ++ [c.source] ++ be 1 c.slot.val

/-- The header of Table 9-3 with the number of windows held. -/
def encHeader (h : RecordHeader) (windows : Nat) (cut : Bool) : List Byte :=
  be 1 (causeCode h.cause) ++ optBe 1 (h.stage.map Fin.val) ++ encWindow h.trigger ++ be 4 h.time.toNat ++ be 1 h.pre
    ++ encList (h.channels.map encChannel) ++ be 1 h.joined ++ be 1 windows ++ encFlag cut

/-- The header as READ STATUS gives it: in RECORDING and HELD only (R192); 15 bytes with an empty channel list. -/
def State.statusHeader (s : State) : List Byte :=
  match s.cap.status with
  | .recording | .held =>
    encOpt 15 (s.cap.header.map fun h => encHeader h s.cap.store.length s.cap.cutShort)
  | .disarmed | .armed => encOpt 15 none

/-- The mode, P and the mask of capture. -/
def encCaptureSettings (c : CaptureState) : List Byte :=
  be 1 (captureModeCode c.mode) ++ be 1 c.preCount ++ c.mask.toList.flatMap encFlag

/-- The CAPTURE section (R192). -/
def State.statusCapture (s : State) : List Byte :=
  be 1 (captureCode s.cap.status) ++ encCaptureSettings s.cap
    ++ be 1 s.cap.store.length ++ encWindow (s.cap.store.getLast?.map (·.w)) ++ be 4 s.cap.missed
    ++ encList (s.channels.map encChannel) ++ s.statusHeader

def State.doStatusCapture (s : State) : State × Answer := (s, doneWith s.statusCapture)

/-! ### READ MEASUREMENTS (R62) -/

def encFreq (f : Option Freq) : List Byte :=
  optBe 3 (f.map (·.mHz)) ++ optBe 2 (f.map (·.dev)) ++ encOpt 1 (f.map fun x => encFlag x.off)

/-- The orders of a harmonic part with their magnitudes and per-order values. -/
def encOrders (h : HarmonicPart) : List (List Byte) :=
  (List.range h.orders.length).map fun i =>
    let m := h.orders.getD i (0, 0)
    be 1 m.1 ++ be 3 m.2 ++ optBe 2 (h.values.bind fun vs => vs[i]?)

/-- The harmonic part of a slot, or an absent one, in the order of Table 3-1: presence, the list, availability, THD. -/
def encHarmonic : Option HarmonicPart → List Byte
  | some h => encFlag true ++ encList (encOrders h) ++ encFlag h.values.isSome ++ optBe 2 h.thd
  | none => encFlag false ++ encList [] ++ encFlag false ++ optBe 2 none

/-- The fields of Table 3-1. -/
def encSlot (x : ResultSlot) : List Byte :=
  be 2 x.w.toNat ++ be 1 (servedCode x.by_) ++ encFlag x.complete ++ encFlag x.clipped ++ encFlag x.questionable
    ++ optBe 2 (x.vals.map (·.rms)) ++ encOpt 6 (x.vals.map fun v => beInt 3 v.re ++ beInt 3 v.im)
    ++ optBe 3 (x.vals.map (·.m1)) ++ optBe 2 (x.vals.map (·.fund))
    ++ encHarmonic (x.vals.bind (·.harm)) ++ encFreq x.freq

/-- The bytes of a slot without harmonic orders. -/
def slotWidth : Nat := 38

/-- The selected slot of a role. -/
def State.selectedSlot (s : State) (previous : Bool) (r : Role) : Option ResultSlot :=
  if !mapped s.map r then none else if previous then (s.role r).previous else (s.role r).newest

/-- One answer of READ MEASUREMENTS. -/
def State.measurement (s : State) (previous : Bool) (r : Role) : List Byte :=
  be 1 (roleCode r) ++ encOpt slotWidth ((s.selectedSlot previous r).map encSlot)

/-- The tracker's own state. -/
def State.encTracker (s : State) : List Byte := encFreq s.tracker.freq ++ encWindow s.tracker.updated

/-- The measured role of a code; FORWARD_ONLY and unknown codes have none. -/
def measuredRole (b : Byte) : Option Role := (roleOfCode b).bind id

def State.doReadMeasurements (selector : Byte) (codes : List Byte) (s : State) : State × Answer :=
  if codes.length = 0 ∨ 4 < codes.length then (s, refused .length)
  else if selector ≠ 0 ∧ selector ≠ 1 then (s, refused .index)
  else if codes.any fun b => (measuredRole b).isNone then (s, refused .index)
  else
    (s, doneWith (packList s.encTracker.length ((codes.filterMap measuredRole).map (s.measurement (selector == 1)))
      ++ s.encTracker))

/-! ### Counters (R194, R195) -/

/-- The code of a link state, UP or DOWN as section 1.6 lists them (R187). -/
def linkCode (up : Bool) : Nat := if up then 0 else 1

def State.doReadCounters (s : State) : State × Answer :=
  let a := s.portS.ctr
  let b := s.portF.ctr
  (s, doneWith (be 1 (linkCode s.portS.up) ++ be 1 (linkCode s.portF.up) ++
    [a.good, a.checkFailures, a.transitFull, a.wrongSide, a.poisoned, a.linkDiscards, s.repliesDropped, s.noticesDropped,
      b.good, b.checkFailures, b.transitFull, b.wrongSide, b.poisoned, s.preemptions, b.linkDiscards,
      s.malformedSamples, s.lateSamples, s.mapOverflow, s.malformedPositions, s.cap.missed].flatMap (be 4)))

def clearedPort (q : PortState) : PortState := { q with ctr := ⟨0, 0, 0, 0, 0, 0⟩ }

/-- The twenty counters become 0 (R195). -/
def State.clearCounters (s : State) : State :=
  { s with
    portS := clearedPort s.portS
    portF := clearedPort s.portF
    preemptions := 0
    repliesDropped := 0
    noticesDropped := 0
    malformedSamples := 0
    lateSamples := 0
    mapOverflow := 0
    malformedPositions := 0
    cap := { s.cap with missed := 0 } }

def State.doClearCounters (s : State) : State × Answer := (s.clearCounters, doneWith [])

/-! ### The channel map (R21 to R26) -/

/-- CLEAR MAP carried out (R22, R56, R57, R174). A raised phase alarm of a bus role stands, its role unmapped (R152, R161; log
entry 49). -/
def State.clearMap (s : State) : State :=
  let s1 : State := { s with
    map := []
    sources := []
    roles := Vector.replicate 51 resetRole
    yardIx := none
    tracker := s.tracker.discard }
  if s.channels = [] then s1 else s1.channelsChanged

def State.doClearMap (s : State) : State × Answer :=
  if s.mode ≠ .config then (s, refused .mode) else (s.clearMap, doneWith [])

/-- An entry whose fields have values of Table 2-2, its capture flag as written. -/
def readEntry (e : MapEntryWrite) : Option MapEntry :=
  if e.source = 0 ∨ e.source = 255 then none
  else if h : e.slot.toNat < 16 then
    (roleOfCode e.role).map fun r => ⟨e.source, ⟨e.slot.toNat, h⟩, r, e.gain, e.capture⟩
  else none

/-- The distinct source addresses of a map, in the order in which each is first named. -/
def sourcesOf (m : List MapEntry) : List Byte :=
  m.foldl (fun acc e => if e.source ∈ acc then acc else acc ++ [e.source]) []

/-- The checks of R23 on one entry against the map and the sources as they would stand before it. -/
def entryCheck (m : List MapEntry) (srcs : List Byte) (e : MapEntry) : Option Reason :=
  if e.role.any fun r => decide (2 ≤ (entriesOf m r).length) then some .duplicate
  else if m.any fun x => x.source = e.source ∧ x.slot = e.slot then some .duplicate
  else if e.source ∉ srcs ∧ 8 ≤ srcs.length then some .full
  else none

/-- The capture flag as R25 stores it. -/
def keptFlag (m : List MapEntry) (e : MapEntry) : Bool :=
  e.capture && e.role.isSome && decide ((m.filter (·.capture)).length < 8)

/-- What appending a list of entries gives: the new map, the new sources in order, and whether a flag was cleared; or the
refusal with the position of the first failing entry. -/
inductive Appended where
  | refusedAt (r : Reason) (pos : Nat)
  | stored (m : List MapEntry) (srcs : List Byte) (cleared : Bool)
  deriving DecidableEq, Repr

/-- Append the entries in order (R23, R25). -/
def appendEntries : Nat → List MapEntry → List Byte → Bool → List MapEntryWrite → Appended
  | _, m, srcs, cleared, [] => .stored m srcs cleared
  | i, m, srcs, cleared, w :: ws =>
    match readEntry w with
    | none => .refusedAt .index i
    | some e =>
      match entryCheck m srcs e with
      | some r => .refusedAt r i
      | none =>
        appendEntries (i + 1) (m ++ [{ e with capture := keptFlag m e }])
          (if e.source ∈ srcs then srcs else srcs ++ [e.source]) (cleared || (e.capture && !keptFlag m e)) ws

/-- A counter raised by `n` (R18). -/
def bumpBy (c n : Nat) : Nat := max c (min 4294967295 (c + n))

/-- The map and the source table after an APPEND MAP that is carried out (R23, R24, R174). -/
def State.appendMap (s : State) (m : List MapEntry) (srcs : List Byte) (extra : Nat) : State :=
  let s1 : State := { s with
    map := m
    sources := s.sources ++ (srcs.drop s.sources.length).map fun a => newSource a s.now
    mapOverflow := bumpBy s.mapOverflow extra }
  if channelsOf m = s.channels then s1 else s1.channelsChanged

def State.doAppendMap (es : List MapEntryWrite) (s : State) : State × Answer :=
  if es.length = 0 ∨ 16 < es.length then (s, refused .length)
  else if s.mode ≠ .config then (s, refused .mode)
  else
    let room := 64 - s.map.length
    let extra := es.length - room
    match appendEntries 0 s.map (s.sources.map (·.addr)) false (es.take room) with
    | .refusedAt r i => (s, refusedAt r (BitVec.ofNat 8 i))
    | .stored m srcs cleared => (s.appendMap m srcs extra, carried (cleared || decide (0 < extra)) [])

/-- Primary 0, backup 1, neither 2 (R26; log entry 19). -/
def markOf (m : List MapEntry) (i : Nat) (e : MapEntry) : Nat :=
  match e.role with
  | none => 2
  | some r => if (entriesOf (m.take i) r).isEmpty then 0 else 1

/-- One entry as READ MAP returns it. -/
def encEntry (m : List MapEntry) (i : Nat) (e : MapEntry) : List Byte :=
  [e.source] ++ be 1 e.slot.val ++ be 1 ((e.role.map roleCode).getD 255) ++ be 2 e.gain.toNat ++ encFlag e.capture
    ++ be 1 (markOf m i e)

/-- The entries from a start index, at most 16. -/
def encEntries (m : List MapEntry) (start : Nat) : List (List Byte) :=
  (((m.zipIdx).drop start).take 16).map fun x => encEntry m x.2 x.1

def State.doReadMap (start : Byte) (s : State) : State × Answer :=
  if 63 < start.toNat then (s, refused .index)
  else (s, doneWith (encList (encEntries s.map start.toNat) ++ be 1 s.map.length))

/-! ### WRITE CONTROL (R107, R108) -/

/-- A set as R107 stores it. -/
def clampedSet (w : ControlSetWrite) : ControlSet :=
  let dead := clampNat 100 800 w.deadLevel.toNat
  { setpoint := clampNat 800 1200 w.setpoint.toNat
    halfBand := clampNat 5 100 w.halfBand.toNat
    level := clampNat 100 60000 w.level.toNat
    leak := clampNat 0 1000 w.leak.toNat
    settleHold := clampNat 0 3000 w.settleHold.toNat
    vmax := clampNat 1000 1300 w.vmax.toNat
    fastInterval := clampNat 1 600 w.fastInterval.toNat
    deadLevel := dead
    deadDelay := clampNat 1 60 w.deadDelay.toNat
    restoreLevel := max (dead + 1) (clampNat 500 1000 w.restoreLevel.toNat)
    restoreDelay := clampNat 1 30000 w.restoreDelay.toNat }

/-- The set as received. -/
def givenSet (w : ControlSetWrite) : ControlSet :=
  ⟨w.setpoint.toNat, w.halfBand.toNat, w.level.toNat, w.leak.toNat, w.settleHold.toNat, w.vmax.toNat,
    w.fastInterval.toNat, w.deadLevel.toNat, w.deadDelay.toNat, w.restoreLevel.toNat, w.restoreDelay.toNat⟩

def encSet (c : ControlSet) : List Byte :=
  be 2 c.setpoint ++ be 1 c.halfBand ++ be 2 c.level ++ be 2 c.leak ++ be 2 c.settleHold ++ be 2 c.vmax
    ++ be 2 c.fastInterval ++ be 2 c.deadLevel ++ be 1 c.deadDelay ++ be 2 c.restoreLevel ++ be 2 c.restoreDelay

def State.storeSet (s : State) (i : SetId) (c : ControlSet) : State :=
  match i with
  | .A => { s with setA := c }
  | .B => { s with setB := c }

/-- A full write of a set; of the set in force it restarts the settle hold (R108). -/
def State.writeSet (s : State) (i : SetId) (c : ControlSet) : State :=
  let s1 := s.storeSet i c
  if s.setInForce = some i then s1.modVc (restartHold c.settleHold) else s1

def State.doWriteControlSet (i : SetId) (w : Option ControlSetWrite) (s : State) : State × Answer :=
  match w with
  | none => (s, doneWith (encSet (s.controlSet i)))
  | some x => (s.writeSet i (clampedSet x), carried (decide (clampedSet x ≠ givenSet x)) (encSet (clampedSet x)))

/-- An empty selection is stored as A alone (R107). -/
def clampedPhases (p : PhaseSet) : PhaseSet := if p.a || p.b || p.c then p else ⟨true, false, false⟩

/-- The counts gathered on other phases start again (R108). -/
def clearCounts (v : VoltageState) : VoltageState :=
  { v with overCount := 0, fastCount := 0, deadCount := 0, restoreCount := 0, missing := 0, fastPending := false }

/-- A full write of the phase selection (R108). -/
def State.writePhases (s : State) (p : PhaseSet) : State :=
  let s1 : State := { s with phases := p }
  if s.running then s1.modVc fun v => clearCounts (restartHold s.forceSet.settleHold v) else s1

def State.doWriteControlPhases (w : Option PhaseSet) (s : State) : State × Answer :=
  match w with
  | none => (s, doneWith (encPhases s.phases))
  | some p => (s.writePhases (clampedPhases p), carried (decide (clampedPhases p ≠ p)) (encPhases (clampedPhases p)))

/-! ### WRITE HARMONIC (R149, R150) -/

def clampedTable (w : HarmonicWrite) : HarmonicTable :=
  { orders := w.orders.map fun x => (x.1.toNat, clampNat 1 1000 x.2.toNat)
    thdLimit := clampNat 1 1000 w.thdLimit.toNat
    alarmDelay := clampNat 1 600 w.alarmDelay.toNat
    recoverDelay := clampNat 1 30000 w.recoverDelay.toNat }

/-- The table as received. -/
def givenTable (w : HarmonicWrite) : HarmonicTable :=
  ⟨w.orders.map fun x => (x.1.toNat, x.2.toNat), w.thdLimit.toNat, w.alarmDelay.toNat, w.recoverDelay.toNat⟩

def encTable (t : HarmonicTable) : List Byte :=
  encList (t.orders.map fun x => be 1 x.1 ++ be 2 x.2) ++ be 2 t.thdLimit ++ be 2 t.alarmDelay ++ be 2 t.recoverDelay

/-- Some order appears twice. -/
def repeated : List Nat → Bool
  | [] => false
  | x :: xs => xs.contains x || repeated xs

/-- The checks of R149. -/
def tableCheck (w : HarmonicWrite) : Option Reason :=
  if 8 < w.orders.length then some .full
  else if w.orders.any fun x => decide (x.1.toNat < 2 ∨ 15 < x.1.toNat) then some .index
  else if repeated (w.orders.map fun x => x.1.toNat) then some .duplicate
  else none

/-- The notices of the bus alarms that a table write clears (R150), order by order and then THD (log entry 14). -/
def State.clearedAlarms (s : State) : List Notice :=
  (((List.range s.table.orders.length).map some ++ [none]).filter s.busAlarm).map fun q =>
    .harmonicAlarm false (some .table) (s.orderOf q) none none none

/-- A full write of the table (R150). -/
def State.writeTable (s : State) (t : HarmonicTable) : State :=
  let s1 : State := { s with
    table := t
    alarms := Vector.replicate 3 ⟨t.orders.map fun _ => resetQuantity, resetQuantity⟩
    stages := s.stages.map fun a => { a with overCount := 0 } }
  s.clearedAlarms.foldl State.notice s1

def State.doWriteHarmonic (w : Option HarmonicWrite) (s : State) : State × Answer :=
  match w with
  | none => (s, doneWith (encTable s.table))
  | some x =>
    match tableCheck x with
    | some r => (s, refused r)
    | none => (s.writeTable (clampedTable x), carried (decide (clampedTable x ≠ givenTable x)) (encTable (clampedTable x)))

/-! ### WRITE LINK (R196, R197) -/

/-- The settings as they stand after clamping; `none` where a value is refused INDEX. -/
def readLink (w : LinkWrite) : Option LinkSettings :=
  if w.checkModes.toList.any (fun b => (checkModeOfCode b).isNone) || w.noticeAddress == 255 then none
  else (nominalOfHz w.nominal).map fun n =>
    { checkModes := w.checkModes.map fun b => (checkModeOfCode b).getD .hold
      threshold := clampNat 8 256 w.threshold.toNat
      watchdog := clampNat 0 600 w.watchdog.toNat
      alarmMask := w.alarmMask
      noticeAddress := w.noticeAddress
      nominal := n
      closeLimit := clampNat 1 4 w.closeLimit.toNat
      closeGap := clampNat 0 10000 w.closeGap.toNat
      closeTimeout := clampNat 20 2000 w.closeTimeout.toNat
      openTimeout := clampNat 20 2000 w.openTimeout.toNat
      silence := clampNat 100 10000 w.silence.toNat }

/-- Some setting was brought into range. -/
def linkBrought (w : LinkWrite) (l : LinkSettings) : Bool :=
  decide (l.threshold ≠ w.threshold.toNat ∨ l.watchdog ≠ w.watchdog.toNat ∨ l.closeLimit ≠ w.closeLimit.toNat
    ∨ l.closeGap ≠ w.closeGap.toNat ∨ l.closeTimeout ≠ w.closeTimeout.toNat ∨ l.openTimeout ≠ w.openTimeout.toNat
    ∨ l.silence ≠ w.silence.toNat)

def encLink (l : LinkSettings) : List Byte :=
  l.checkModes.toList.flatMap (fun m => be 1 (checkModeCode m)) ++ be 2 l.threshold ++ be 2 l.watchdog
    ++ l.alarmMask.toList.flatMap encFlag ++ [l.noticeAddress] ++ be 1 (nominalHz l.nominal) ++ be 1 l.closeLimit
    ++ be 2 l.closeGap ++ be 2 l.closeTimeout ++ be 2 l.openTimeout ++ be 2 l.silence

/-- A close gap just written has run out already (R94). -/
def State.gapRunOut (s : State) : Bool :=
  match s.lastClose with
  | some t => decide (s.link.closeGap ≤ elapsed s.now t)
  | none => false

/-- A full write of the link settings (R197, R94). -/
def State.writeLink (s : State) (l : LinkSettings) : State :=
  let s1 := State.restartWatchdog { s with link := l }
  let s2 : State := if l.nominal = s.link.nominal then s1 else { s1 with tracker := s1.tracker.discard }
  if s2.gapRunOut then s2.selection else s2

def State.doWriteLink (w : Option LinkWrite) (s : State) : State × Answer :=
  match w with
  | none => (s, doneWith (encLink s.link))
  | some x =>
    match readLink x with
    | none => (s, refused .index)
    | some l =>
      if s.mode ≠ .config ∧ (l.nominal ≠ s.link.nominal ∨ l.closeLimit ≠ s.link.closeLimit) then (s, refused .mode)
      else (s.writeLink l, carried (linkBrought x l) (encLink l))

/-! ### Capture requests (R170 to R173) -/

/-- The settings of a full ARM CAPTURE; `none` where the mode is refused INDEX. -/
def readArm (c : CaptureState) : Option ArmWrite → Option CaptureState
  | none => some c
  | some w => (captureModeOfCode w.mode).map fun m =>
    { c with mode := m, preCount := clampNat 0 15 w.preCount.toNat, mask := w.mask }

/-- The store keeps at most P + 1 windows. -/
def trimmedStore (c : CaptureState) : CaptureState :=
  { c with store := c.store.drop (c.store.length - (c.preCount + 1)) }

/-- P was brought into range. -/
def armBrought : Option ArmWrite → Bool
  | some w => decide (15 < w.preCount.toNat)
  | none => false

/-- ARM CAPTURE after its checks; the reply carries no ALREADY mark, in ARMED either (R172; log entry 53). -/
def State.doArmCapture (w : Option ArmWrite) (s : State) : State × Answer :=
  match readArm s.cap w with
  | none => (s, refused .index)
  | some c =>
    if s.cap.status = .recording ∨ s.cap.status = .held then (s, refused .state)
    else if s.channels = [] then (s, refused .nomap)
    else ({ s with cap := { trimmedStore c with status := .armed } }, carried (armBrought w) (encCaptureSettings c))

def triggerCode : TriggerResult → Nat
  | .started => 0 | .joined => 1 | .missed => 2 | .masked => 3

def State.doTriggerCapture (s : State) : State × Answer :=
  let r := s.triggerWith .request none (s.yardIx.map (·.1))
  (r.1, doneWith (be 1 (triggerCode r.2)))

/-- A piece (Table 9-1); its 32 samples are fields, not a list (log entry 20). -/
def encPiece (p : Piece) : List Byte :=
  encFlag p.received ++ be 1 (servedCode p.by_) ++ encFlag p.complete ++ encFlag p.clipped ++ encFlag p.questionable
    ++ p.samples.flatMap (beInt 2)

/-- The reply data for a window and a channel of a held record; `none` is refused INDEX (R170). -/
def State.pieceData (s : State) (window channel : Nat) : Option (List Byte) :=
  match s.cap.header, s.cap.store[window]? with
  | some h, some x =>
    if channel < h.channels.length then
      (x.pieces[channel]?).map fun p =>
        encHeader h s.cap.store.length s.cap.cutShort ++ be 2 x.w.toNat ++ encPiece p
    else none
  | _, _ => none

def State.doReadCapture (window channel : Byte) (s : State) : State × Answer :=
  if s.cap.status ≠ .held then (s, refused .state)
  else match s.pieceData window.toNat channel.toNat with
    | some d => (s, doneWith d)
    | none => (s, refused .index)

/-- The record is discarded (R171). -/
def State.discardRecord (s : State) : State :=
  { s with cap := { s.cap with
      store := []
      header := none
      status := if s.cap.mode = .repeating then s.rearmed else .disarmed } }

/-- RELEASE CAPTURE by state; no reply carries the ALREADY mark, in DISARMED either (R171; log entry 53). -/
def State.doReleaseCapture (s : State) : State × Answer :=
  match s.cap.status with
  | .held => (s.discardRecord, doneWith [])
  | .armed => ({ s with cap := { s.cap with status := .disarmed } }, doneWith [])
  | .disarmed => (s, doneWith [])
  | .recording => (s, refused .busy)

end Sys2Proof.Machine
end

