-- ==== Sys2Proof/Machine/Manage.lean ====
section
/-! DEFINITION. The request decoder (R187, R188): a MANAGE payload read field by field, and the request carried out by the
same functions as the request rows of the table. -/

namespace Sys2Proof.Machine

/-- What a request does to the state and what it answers. -/
abbrev RequestAct := State → State × Answer

/-- A request refused before anything else is looked at. -/
def refuse (r : Reason) : RequestAct := fun s => (s, refused r)

/-- A request whose parameter part has exactly `n` bytes (R188). -/
def sized (n : Nat) (ps : List Byte) (f : RequestAct) : RequestAct := if ps.length = n then f else refuse .length

/-! ### Fields of the longer parameter parts -/

/-- WRITE STAGE after its stage index; `n` is the count of its orders (Table 4-1). -/
def stageFields (ps : List Byte) (n : Nat) : StageWrite where
  enabled := decFlag (byteAt ps 1)
  unit := byteAt ps 2
  rank := byteAt ps 3
  effect := byteAt ps 4
  cooldown := wordAt ps 5
  alarmLevel := wordAt ps 7
  alarmDelay := wordAt ps 9
  tripLevel := wordAt ps 11
  tripDelay := wordAt ps 13
  compensation := if decFlag (byteAt ps 15) then some (wordAt ps 16, wordAt ps 18) else none
  orders := (ps.drop 21).take n
  thdLimit := wordAt ps (21 + n)
  thdDelay := wordAt ps (23 + n)
  operations := tripleAt ps (25 + n)

/-- WRITE STAGE; a refusal LENGTH carries the stage index where the part has one (Table 11-1; log entry 20). -/
def writeStageAct (ps : List Byte) : RequestAct :=
  let n := (byteAt ps 20).toNat
  if ps = [] then refuse .length
  else if ps.length = 28 + n then State.doWriteStage (byteAt ps 0) (stageFields ps n)
  else fun s => (s, refusedAt .length (byteAt ps 0))

/-- A control set at offset 1 (Table 6-1). -/
def setFields (ps : List Byte) : ControlSetWrite where
  setpoint := wordAt ps 1
  halfBand := byteAt ps 3
  level := wordAt ps 4
  leak := wordAt ps 6
  settleHold := wordAt ps 8
  vmax := wordAt ps 10
  fastInterval := wordAt ps 12
  deadLevel := wordAt ps 14
  deadDelay := byteAt ps 16
  restoreLevel := wordAt ps 17
  restoreDelay := wordAt ps 19

def phaseFields (ps : List Byte) : PhaseSet := ⟨decFlag (byteAt ps 1), decFlag (byteAt ps 2), decFlag (byteAt ps 3)⟩

def writeSetAct (i : SetId) (ps : List Byte) : RequestAct :=
  if ps.length = 1 then State.doWriteControlSet i none
  else sized 21 ps (State.doWriteControlSet i (some (setFields ps)))

/-- WRITE CONTROL: the selector decides the length of the rest (R107, R188). -/
def writeControlAct (ps : List Byte) : RequestAct :=
  if ps = [] then refuse .length
  else if byteAt ps 0 = 0 then writeSetAct .A ps
  else if byteAt ps 0 = 1 then writeSetAct .B ps
  else if byteAt ps 0 = 2 then
    if ps.length = 1 then State.doWriteControlPhases none
    else sized 4 ps (State.doWriteControlPhases (some (phaseFields ps)))
  else refuse .index

/-- WRITE HARMONIC with `n` pairs (R149). -/
def harmonicFields (ps : List Byte) (n : Nat) : HarmonicWrite where
  orders := (List.range n).map fun i => (byteAt ps (1 + 3 * i), wordAt ps (2 + 3 * i))
  thdLimit := wordAt ps (1 + 3 * n)
  alarmDelay := wordAt ps (3 + 3 * n)
  recoverDelay := wordAt ps (5 + 3 * n)

def writeHarmonicAct (ps : List Byte) : RequestAct :=
  if ps = [] then State.doWriteHarmonic none
  else
    let n := (byteAt ps 0).toNat
    sized (7 + 3 * n) ps (State.doWriteHarmonic (some (harmonicFields ps n)))

/-- WRITE LINK (Table 11-4). -/
def linkFields (ps : List Byte) : LinkWrite where
  checkModes := Vector.ofFn fun i => byteAt ps i.val
  threshold := wordAt ps 7
  watchdog := wordAt ps 9
  alarmMask := Vector.ofFn fun i => decFlag (byteAt ps (11 + i.val))
  noticeAddress := byteAt ps 20
  nominal := byteAt ps 21
  closeLimit := byteAt ps 22
  closeGap := wordAt ps 23
  closeTimeout := wordAt ps 25
  openTimeout := wordAt ps 27
  silence := wordAt ps 29

def writeLinkAct (ps : List Byte) : RequestAct :=
  if ps = [] then State.doWriteLink none else sized 31 ps (State.doWriteLink (some (linkFields ps)))

/-- ARM CAPTURE (R172). -/
def armFields (ps : List Byte) : ArmWrite where
  mode := byteAt ps 0
  preCount := byteAt ps 1
  mask := Vector.ofFn fun i => decFlag (byteAt ps (2 + i.val))

def armCaptureAct (ps : List Byte) : RequestAct :=
  if ps = [] then State.doArmCapture none else sized 8 ps (State.doArmCapture (some (armFields ps)))

/-- The `i`-th entry of an APPEND MAP (Table 2-2). -/
def entryFields (ps : List Byte) (i : Nat) : MapEntryWrite where
  source := byteAt ps (1 + 6 * i)
  slot := byteAt ps (2 + 6 * i)
  role := byteAt ps (3 + 6 * i)
  gain := wordAt ps (4 + 6 * i)
  capture := decFlag (byteAt ps (6 + 6 * i))

def appendMapAct (ps : List Byte) : RequestAct :=
  if ps = [] then refuse .length
  else
    let n := (byteAt ps 0).toNat
    sized (1 + 6 * n) ps (State.doAppendMap ((List.range n).map (entryFields ps)))

/-- READ MEASUREMENTS: selector, count, role codes. -/
def readMeasurementsAct (ps : List Byte) : RequestAct :=
  if ps.length < 2 then refuse .length
  else sized (2 + (byteAt ps 1).toNat) ps (State.doReadMeasurements (byteAt ps 0) (ps.drop 2))

/-- READ STATUS: the section decides the length of the rest (R191, R188). -/
def readStatusAct (ps : List Byte) : RequestAct :=
  if ps = [] then refuse .length
  else if byteAt ps 0 = 0 then sized 1 ps State.doStatusPart
  else if byteAt ps 0 = 1 then sized 1 ps State.doStatusControl
  else if byteAt ps 0 = 2 then sized 2 ps (State.doStatusStages (byteAt ps 1))
  else if byteAt ps 0 = 3 then sized 1 ps State.doStatusHarmonic
  else if byteAt ps 0 = 4 then sized 1 ps State.doStatusCapture
  else refuse .index

/-! ### The catalogue (Table 11-3) -/

/-- The request of a kind code with its parameter part; RESTART stands in `State.manage`. -/
def requestAct (kind : Byte) (ps : List Byte) : RequestAct :=
  if kind = 0x01 then readStatusAct ps
  else if kind = 0x02 then readMeasurementsAct ps
  else if kind = 0x03 then sized 0 ps State.doReadCounters
  else if kind = 0x04 then sized 0 ps State.doClearCounters
  else if kind = 0x10 then sized 1 ps (State.doReadStage (byteAt ps 0))
  else if kind = 0x11 then writeStageAct ps
  else if kind = 0x12 then sized 1 ps (State.doBlock true (byteAt ps 0))
  else if kind = 0x13 then sized 1 ps (State.doBlock false (byteAt ps 0))
  else if kind = 0x14 then sized 1 ps (State.doRelease (byteAt ps 0))
  else if kind = 0x15 then sized 1 ps (State.doManualOpen (byteAt ps 0))
  else if kind = 0x16 then sized 1 ps (State.doManualClose (byteAt ps 0))
  else if kind = 0x17 then sized 1 ps (State.doCaptureBalance (byteAt ps 0))
  else if kind = 0x20 then sized 0 ps State.doClearMap
  else if kind = 0x21 then appendMapAct ps
  else if kind = 0x22 then sized 1 ps (State.doReadMap (byteAt ps 0))
  else if kind = 0x30 then writeControlAct ps
  else if kind = 0x31 then writeHarmonicAct ps
  else if kind = 0x32 then writeLinkAct ps
  else if kind = 0x40 then sized 0 ps State.doEnterService
  else if kind = 0x41 then sized 0 ps State.doEnterConfig
  else if kind = 0x42 then sized 0 ps State.doForceFallback
  else if kind = 0x43 then sized 0 ps State.doResume
  else if kind = 0x50 then armCaptureAct ps
  else if kind = 0x51 then sized 0 ps State.doTriggerCapture
  else if kind = 0x52 then sized 2 ps (State.doReadCapture (byteAt ps 0) (byteAt ps 1))
  else if kind = 0x53 then sized 0 ps State.doReleaseCapture
  else refuse .unknown

/-- Management executes the MANAGE payload of a frame from `src` (R188, R189). Header bytes that are missing are echoed
as 0. -/
def State.manage (s : State) (src : Byte) (payload : List Byte) : State :=
  let rq : Requester := ⟨src, wordAt payload 1⟩
  let kind := byteAt payload 0
  let ps := payload.drop 3
  if payload.length < 3 then s.answer rq kind (refuse .length)
  else if kind = 0x44 then
    if ps = [] then s.restartRequest rq else s.answer rq kind (refuse .length)
  else s.answer rq kind (requestAct kind ps)

end Sys2Proof.Machine
end

