-- ==== Sys2Proof/Machine/Chain.lean ====
section
/-! DEFINITION. The chain ports (chapter 1): the receive store and the transit slots, the end of a frame and its
consumption, the output arbiters, the link states, and the byte time of the two outputs. -/

namespace Sys2Proof.Machine

/-! ### Check modes (R9) -/

/-- The entry of the check mode set that serves a kind code (R9). -/
def modeIx (kind : Byte) : Fin 7 :=
  if kind = 0x10 then 0 else if kind = 0x11 then 1 else if kind = 0x20 then 2 else if kind = 0x30 then 3
  else if kind = 0x31 then 4 else if kind = 0x32 then 5 else 6

/-- The frame opened by its kind byte, its check mode and threshold fixed (R9). -/
def State.openFrame (s : State) (b : Byte) : RxFrame := ⟨[b], s.link.checkModes[modeIx b], s.link.threshold, false⟩

/-- The receive store of a port. -/
def State.setRx (s : State) (p : Port) (r : Rx) : State := s.modPort p fun q => { q with rx := r }

/-! ### Transit slots (R4, R8, R17) -/

/-- A frame with this destination is to be forwarded (R3, R4). -/
def State.forwards (s : State) (dst : Byte) : Bool := !s.fullNode || dst != s.addr

/-- The destination byte of a frame being received on `p` arrives (R4, R8, R17). -/
def State.takeSlot (s : State) (p : Port) (f : RxFrame) (b : Byte) : State :=
  let g : RxFrame := { f with bytes := f.bytes ++ [b] }
  if !s.forwards b then s.setRx p (.receiving g)
  else if !(s.port (otherPort p)).up then
    (s.setRx p (.receiving g)).count (otherPort p) fun c => { c with linkDiscards := bump c.linkDiscards }
  else if 8 ≤ (s.port (otherPort p)).buf.length then
    (s.setRx p (.receiving g)).count p fun c => { c with transitFull := bump c.transitFull }
  else
    (s.setRx p (.receiving { g with inSlot := true })).modPort (otherPort p) fun q =>
      { q with buf := q.buf ++ [⟨g.bytes, f.mode, f.threshold, .pending, false⟩] }

/-- Change the newest slot of a buffer. -/
def modLast (f : TransitSlot → TransitSlot) (l : List TransitSlot) : List TransitSlot := l.modify (l.length - 1) f

/-! ### A frame that does not get through (R1, R10 to R12) -/

/-- The copy of the newest slot of a port is under way. -/
def PortState.copyUnderWay (q : PortState) : Option Nat :=
  match q.tx with
  | .transit sent => if q.buf.length = 1 then some sent else none
  | _ => none

/-- The frame arriving for output port `o` is bad: its slot is discarded, and a copy under way is ended poisoned after
`upTo sent received` bytes and counted (R10, R11, R12). -/
def State.abandonArriving (s : State) (o : Port) (upTo : Nat → Nat → Nat) : State :=
  let q := s.port o
  match q.copyUnderWay, q.buf.getLast? with
  | some sent, some slot =>
    State.modPort { s with fresh := s.fresh + 1 } o fun q =>
      { (q.endCopy (poisonedCopy slot.bytes (upTo sent slot.bytes.length))) with
        buf := q.buf.dropLast
        ctr := { q.ctr with poisoned := bump q.ctr.poisoned } }
  | _, _ => s.modPort o fun q => { q with buf := q.buf.dropLast }

/-- The frame being received on `p` is bad: counted, its slot abandoned. -/
def State.badFrame (s : State) (p : Port) (f : RxFrame) (upTo : Nat → Nat → Nat) : State :=
  let s1 := s.count p fun c => { c with checkFailures := bump c.checkFailures }
  if f.inSlot then s1.abandonArriving (otherPort p) upTo else s1

/-! ### Bytes (R1, R8, R10) -/

/-- A byte of a frame under way from its third on: stored, or the 257th. -/
def State.laterByte (s : State) (p : Port) (f : RxFrame) (b : Byte) : State :=
  if 256 ≤ f.bytes.length then (s.badFrame p f (poisonEnd s.fresh)).setRx p .ignoring
  else
    let s1 := s.setRx p (.receiving { f with bytes := f.bytes ++ [b] })
    if f.inSlot then
      s1.modPort (otherPort p) fun q => { q with buf := modLast (fun t => { t with bytes := t.bytes ++ [b] }) q.buf }
    else s1

/-- A byte arrives on a port; the first one after a start mark is the kind byte (R1, R9). -/
def State.rxByte (p : Port) (s : State) (b : Byte) : State :=
  match (s.port p).rx with
  | .idle => s.setRx p (.receiving (s.openFrame b))
  | .ignoring => s
  | .receiving f => if f.bytes.length = 1 then s.takeSlot p f b else s.laterByte p f b

def State.rxBytes (s : State) (p : Port) (bs : List Byte) : State := bs.foldl (State.rxByte p) s

/-- A line event on a port: nothing is received while the part is held in reset or the port is DOWN (R17). -/
def State.onLine (s : State) (p : Port) (f : State → State) : State := if s.held || !(s.port p).up then s else f s

/-! ### Consumption (R5, R6, R180) -/

inductive Consumer where
  | management | intake | positions
  deriving DecidableEq, Repr

/-- Who consumes a good frame that arrived on `p` (R3, R5). -/
def State.consumer (s : State) (p : Port) (kind dst : Byte) : Option Consumer :=
  if !s.fullNode then none
  else match p with
    | .S => if kind = 0x30 ∧ (dst = s.addr ∨ dst = 0) then some .management else none
    | .F =>
      if dst = 255 then none
      else if kind = 0x10 then some .intake
      else if kind = 0x11 then some .positions
      else none

/-- A MANAGE frame addressed to the part itself restarts a watchdog whose timeout is above 0 (R180). -/
def State.manageSeen (s : State) (dst : Byte) : State := if dst = s.addr then s.restartWatchdog else s

/-- A good frame is handed to its consumer, or counted as wrong side (R5, R6). A MANAGE frame restarts the watchdog before its
request is executed (R180, R188; log entry 55). -/
def State.consume (s : State) (p : Port) (bs : List Byte) : State :=
  let dst := byteAt bs 1
  let src := byteAt bs 2
  match s.consumer p (byteAt bs 0) dst with
  | some .management => (s.manageSeen dst).manage src (framePayload bs)
  | some .intake => s.sampleFrame src (framePayload bs)
  | some .positions => s.positionFrame src (framePayload bs)
  | none =>
    if s.fullNode && dst == s.addr then s.count p fun c => { c with wrongSide := bump c.wrongSide } else s

/-! ### The end mark (R1, R6, R10, R11) -/

/-- The end mark of a good frame: counted, its slot found good, consumed. -/
def State.goodFrame (s : State) (p : Port) (f : RxFrame) : State :=
  let s1 := s.count p fun c => { c with good := bump c.good }
  let s2 := if f.inSlot then
      s1.modPort (otherPort p) fun q => { q with buf := modLast (fun t => { t with check := .good }) q.buf }
    else s1
  s2.consume p f.bytes

/-- The end mark on a port. A frame of no bytes fails the count condition of R1 like any other. -/
def State.endMark (s : State) (p : Port) : State :=
  match (s.port p).rx with
  | .idle => s.badFrame p ⟨[], .cut, 0, false⟩ (poisonEnd s.fresh)
  | .ignoring => s.setRx p .idle
  | .receiving f =>
    let s1 := s.setRx p .idle
    if frameGood f.bytes then s1.goodFrame p f else s1.badFrame p f (poisonEnd s.fresh)

/-! ### Output arbiters (R10, R11, R15, R16) -/

/-- A transit frame is eligible for output (R10, R11). -/
def TransitSlot.eligible (t : TransitSlot) : Bool :=
  match t.mode with
  | .hold => t.check == .good
  | .cut => decide (lengthField t.bytes ≤ 248) && (decide (t.threshold ≤ t.bytes.length) || t.check == .good)

/-- Which frame a boundary sends. -/
inductive Choice where
  | nothing | transit | insert
  deriving DecidableEq, Repr

/-- The head of the transit buffer is eligible. -/
def PortState.transitReady (q : PortState) : Bool := q.buf.head?.any TransitSlot.eligible

/-- A preempted frame stands at the head, its copy cut off (R16). -/
def PortState.resendReady (q : PortState) : Bool := q.buf.head?.any fun t => t.begun && t.eligible

/-- The choice at a boundary: PROTECT first, then a preempted frame, then the alternation (R15, R16). -/
def PortState.choose (q : PortState) : Choice :=
  if q.ins.head?.any InsertFrame.isProtect then .insert
  else if q.resendReady then .transit
  else match q.transitReady, q.ins.isEmpty with
    | false, true => .nothing
    | true, true => .transit
    | false, false => .insert
    | true, false => if q.lastServed = .transit then .insert else .transit

/-- The transmission of the head of the transit buffer begins. -/
def PortState.beginTransit (q : PortState) : PortState :=
  { q with tx := .transit 0, lastServed := .transit, buf := q.buf.modify 0 fun t => { t with begun := true } }

/-- The transmission of the head of the insert queue begins; it leaves the queue (R13, R14). -/
def PortState.beginInsert (q : PortState) : PortState :=
  match q.ins with
  | [] => q
  | f :: fs => { q with tx := .insert f 0, lastServed := .insert, ins := fs }

/-- The arbiter's choice is sent; a frame leaving the down insert queue brings a selection (R15, R93). -/
def State.arbitrate (s : State) (p : Port) : State :=
  match (s.port p).choose with
  | .nothing => s
  | .transit => s.modPort p PortState.beginTransit
  | .insert =>
    let s1 := s.modPort p PortState.beginInsert
    if p = .F then s1.selection else s1

/-- The frame being sent ends: its copy is whole, and a transit frame leaves its slot (R8). -/
def PortState.finish (q : PortState) : PortState :=
  match q.tx, q.buf with
  | .idle, _ => q
  | .insert f _, _ => q.endCopy ⟨f.bytes, .whole⟩
  | .transit _, [] => { q with tx := .idle }
  | .transit _, t :: ts => { (q.endCopy ⟨t.bytes, .whole⟩) with buf := ts }

/-- The transmission on a port is of a frame that is still arriving, so it cannot have ended (R10). -/
def PortState.outrun (q : PortState) : Bool :=
  match q.tx with
  | .transit _ => q.buf.head?.any fun t => t.check != .good
  | _ => false

/-- The RESTART reply is being sent (R184). -/
def State.restartSending (s : State) : Bool :=
  s.restartPending &&
    (match s.portS.tx with
     | .insert f _ => f.kind == .reply true
     | _ => false)

/-- A frame boundary of an output port, or a candidate appearing at an idle port (R15; log entry 18 for RESTART). -/
def State.boundary (s : State) (p : Port) : State :=
  if (s.port p).outrun then s
  else
    let s1 := s.modPort p PortState.finish
    if p = .S && s.restartSending then s1.enterRestart else s1.arbitrate p

/-- The end of the whole transmission of the RESTART reply (R184). -/
def State.restartEffect (s : State) : State :=
  if s.restartSending then (s.modPort .S PortState.finish).enterRestart else s

/-! ### Link state (R12, R17) -/

/-- The input of a port is lost (R12). -/
def State.loseInput (s : State) (p : Port) : State :=
  match (s.port p).rx with
  | .receiving f => (s.badFrame p f fun _ received => received).setRx p .idle
  | .idle | .ignoring => s.setRx p .idle

/-- Frames in the up insert queue are counted by their kind when they are discarded. -/
def State.countQueue (s : State) (p : Port) (q : List InsertFrame) : State :=
  match p with
  | .F => s.count .F fun c => { c with linkDiscards := bumpBy c.linkDiscards q.length }
  | .S => q.foldl (fun s f => s.countUpDrop f.kind) s

/-- The output of a port stops (R17). -/
def downPort (q : PortState) : PortState :=
  { q with
    up := false
    line := cutLine q
    tx := .idle
    buf := []
    ins := []
    ctr := { q.ctr with linkDiscards := bumpBy q.ctr.linkDiscards q.buf.length } }

/-- A frame still arriving whose slot has been discarded holds none any more. -/
def noSlot : Rx → Rx
  | .receiving f => .receiving { f with inSlot := false }
  | .idle => .idle
  | .ignoring => .ignoring

/-- The output of port `p` stops, and what fed it is discarded and counted (R17). -/
def State.stopOutput (s : State) (p : Port) : State :=
  ((s.modPort p downPort).countQueue p (s.port p).ins).modPort (otherPort p) fun q => { q with rx := noSlot q.rx }

/-- What a lost insert frame brings about: on F a selection when COMMAND frames left the queue (log entry 16), on S a
pending RESTART takes effect (R184, log entry 17). -/
def State.afterLinkDown (s : State) (p : Port) (lost : Bool) : State :=
  match p with
  | .F => if lost then s.selection else s
  | .S => if s.restartPending then s.enterRestart else s

def State.linkDown (s : State) (p : Port) : State :=
  let s1 := s.loseInput p
  (s1.stopOutput p).afterLinkDown p !(s.port p).ins.isEmpty

/-- The link comes up; the port receives from the next start mark (R17). -/
def State.linkUp (s : State) (p : Port) : State :=
  if s.held || (s.port p).up then s else s.modPort p fun q => { q with up := true, rx := .idle }

/-! ### A byte time (log entry 2) -/

/-- Each output has sent one byte more, never one that has not been received (R10). -/
def PortState.byteTime (q : PortState) : PortState :=
  match q.tx with
  | .idle => q
  | .insert f sent => { q with tx := .insert f (min (sent + 1) f.bytes.length) }
  | .transit sent => { q with tx := .transit (min (sent + 1) ((q.buf.head?.map (·.bytes.length)).getD 0)) }

def State.byteTime (s : State) : State :=
  if s.held then s else { s with portS := s.portS.byteTime, portF := s.portF.byteTime }

end Sys2Proof.Machine
end

