-- ==== Sys2Proof/Machine/LineEvents.lean ====
section
/-! DEFINITION. The meanings of the line events: bytes, end marks, frame boundaries and link changes of the two ports
(chapter 1). -/

namespace Sys2Proof.Machine

/-- FRAME_RECEIVED (R1): the frame's last bytes, then its end mark. -/
def execFrameReceived (p : Port) (bs : List Byte) (s : State) : Host.Outcome State Fault Refusal :=
  .next (s.onLine p fun s => (s.rxBytes p bs).endMark p)

/-- TRANSIT_SLOT_TAKEN (R8): the byte after the kind byte, the destination. -/
def execTransitSlotTaken (p : Port) (b : Byte) (s : State) : Host.Outcome State Fault Refusal :=
  .next (s.onLine p fun s =>
    match (s.port p).rx with
    | .receiving f => if f.bytes.length = 1 then s.takeSlot p f b else s
    | .idle | .ignoring => s)

/-- CUT_THROUGH_ELIGIBLE (R10): the bytes that bring the count to the threshold; the slot is then eligible. -/
def execCutThroughEligible (p : Port) (bs : List Byte) (s : State) : Host.Outcome State Fault Refusal :=
  .next (s.onLine p fun s => s.rxBytes p bs)

/-- FRAME_OVERLENGTH (R1): the bytes up to the 257th. -/
def execFrameOverlength (p : Port) (bs : List Byte) (s : State) : Host.Outcome State Fault Refusal :=
  .next (s.onLine p fun s => s.rxBytes p bs)

/-- FRAME_BOUNDARY (R15). -/
def execFrameBoundary (p : Port) (s : State) : Host.Outcome State Fault Refusal :=
  .next (s.onLine p fun s => s.boundary p)

/-- LINK_DOWN (R17, R12). -/
def execLinkDown (p : Port) (s : State) : Host.Outcome State Fault Refusal :=
  .next (s.onLine p fun s => s.linkDown p)

/-- LINK_UP (R17). -/
def execLinkUp (p : Port) (s : State) : Host.Outcome State Fault Refusal := .next (s.linkUp p)

/-- KIND_BYTE_ARRIVES (R9): a start mark and the kind byte of a new frame. -/
def execKindByteArrives (p : Port) (b : Byte) (s : State) : Host.Outcome State Fault Refusal :=
  .next (s.onLine p fun s =>
    match (s.port p).rx with
    | .idle => s.setRx p (.receiving (s.openFrame b))
    | .receiving _ | .ignoring => s)

end Sys2Proof.Machine
end

