-- ==== Sys2Proof/Machine/Requests.lean ====
section
/-! DEFINITION. The meanings of the request rows: the execution of one request by management, with its reply (chapter 11;
log entry 9). -/

namespace Sys2Proof.Machine

/-- READ_STATUS_PART (R191). -/
def execReadStatusPart (rq : Requester) (s : State) : Host.Outcome State Fault Refusal :=
  .next (s.request rq 0x01 State.doStatusPart)

/-- READ_STATUS_CONTROL (R192). -/
def execReadStatusControl (rq : Requester) (s : State) : Host.Outcome State Fault Refusal :=
  .next (s.request rq 0x01 State.doStatusControl)

/-- READ_STATUS_STAGES (R193). -/
def execReadStatusStages (rq : Requester) (first : Byte) (s : State) : Host.Outcome State Fault Refusal :=
  .next (s.request rq 0x01 (State.doStatusStages first))

/-- READ_STATUS_HARMONIC (R192). -/
def execReadStatusHarmonic (rq : Requester) (s : State) : Host.Outcome State Fault Refusal :=
  .next (s.request rq 0x01 State.doStatusHarmonic)

/-- READ_STATUS_CAPTURE (R192). -/
def execReadStatusCapture (rq : Requester) (s : State) : Host.Outcome State Fault Refusal :=
  .next (s.request rq 0x01 State.doStatusCapture)

/-- READ_MEASUREMENTS (R62). -/
def execReadMeasurements (rq : Requester) (selector : Byte) (roles : List Byte) (s : State) :
    Host.Outcome State Fault Refusal :=
  .next (s.request rq 0x02 (State.doReadMeasurements selector roles))

/-- READ_COUNTERS (R194). -/
def execReadCounters (rq : Requester) (s : State) : Host.Outcome State Fault Refusal :=
  .next (s.request rq 0x03 State.doReadCounters)

/-- CLEAR_COUNTERS (R195). -/
def execClearCounters (rq : Requester) (s : State) : Host.Outcome State Fault Refusal :=
  .next (s.request rq 0x04 State.doClearCounters)

/-- READ_STAGE (R80). -/
def execReadStage (rq : Requester) (stage : Byte) (s : State) : Host.Outcome State Fault Refusal :=
  .next (s.request rq 0x10 (State.doReadStage stage))

/-- WRITE_STAGE (R64 to R66). -/
def execWriteStage (rq : Requester) (stage : Byte) (w : StageWrite) (s : State) : Host.Outcome State Fault Refusal :=
  .next (s.request rq 0x11 (State.doWriteStage stage w))

/-- BLOCK (R81). -/
def execBlock (rq : Requester) (stage : Byte) (s : State) : Host.Outcome State Fault Refusal :=
  .next (s.request rq 0x12 (State.doBlock true stage))

/-- UNBLOCK (R81). -/
def execUnblock (rq : Requester) (stage : Byte) (s : State) : Host.Outcome State Fault Refusal :=
  .next (s.request rq 0x13 (State.doBlock false stage))

/-- RELEASE (R82, R83). -/
def execRelease (rq : Requester) (stage : Byte) (s : State) : Host.Outcome State Fault Refusal :=
  .next (s.request rq 0x14 (State.doRelease stage))

/-- MANUAL_OPEN (R102). -/
def execManualOpen (rq : Requester) (stage : Byte) (s : State) : Host.Outcome State Fault Refusal :=
  .next (s.request rq 0x15 (State.doManualOpen stage))

/-- MANUAL_CLOSE (R101). -/
def execManualClose (rq : Requester) (stage : Byte) (s : State) : Host.Outcome State Fault Refusal :=
  .next (s.request rq 0x16 (State.doManualClose stage))

/-- CAPTURE_BALANCE (R140). -/
def execCaptureBalance (rq : Requester) (stage : Byte) (s : State) : Host.Outcome State Fault Refusal :=
  .next (s.request rq 0x17 (State.doCaptureBalance stage))

/-- CLEAR_MAP (R22). -/
def execClearMap (rq : Requester) (s : State) : Host.Outcome State Fault Refusal :=
  .next (s.request rq 0x20 State.doClearMap)

/-- APPEND_MAP (R23 to R25). -/
def execAppendMap (rq : Requester) (es : List MapEntryWrite) (s : State) : Host.Outcome State Fault Refusal :=
  .next (s.request rq 0x21 (State.doAppendMap es))

/-- READ_MAP (R26). -/
def execReadMap (rq : Requester) (start : Byte) (s : State) : Host.Outcome State Fault Refusal :=
  .next (s.request rq 0x22 (State.doReadMap start))

/-- WRITE_CONTROL_SET (R107, R108). -/
def execWriteControlSet (rq : Requester) (i : SetId) (w : Option ControlSetWrite) (s : State) :
    Host.Outcome State Fault Refusal :=
  .next (s.request rq 0x30 (State.doWriteControlSet i w))

/-- WRITE_CONTROL_PHASES (R107, R108). -/
def execWriteControlPhases (rq : Requester) (w : Option PhaseSet) (s : State) : Host.Outcome State Fault Refusal :=
  .next (s.request rq 0x30 (State.doWriteControlPhases w))

/-- WRITE_HARMONIC (R149, R150). -/
def execWriteHarmonic (rq : Requester) (w : Option HarmonicWrite) (s : State) : Host.Outcome State Fault Refusal :=
  .next (s.request rq 0x31 (State.doWriteHarmonic w))

/-- WRITE_LINK (R196, R197). -/
def execWriteLink (rq : Requester) (w : Option LinkWrite) (s : State) : Host.Outcome State Fault Refusal :=
  .next (s.request rq 0x32 (State.doWriteLink w))

/-- ENTER_SERVICE (R177). -/
def execEnterService (rq : Requester) (s : State) : Host.Outcome State Fault Refusal :=
  .next (s.request rq 0x40 State.doEnterService)

/-- ENTER_CONFIG (R178). -/
def execEnterConfig (rq : Requester) (s : State) : Host.Outcome State Fault Refusal :=
  .next (s.request rq 0x41 State.doEnterConfig)

/-- FORCE_FALLBACK (R179). -/
def execForceFallback (rq : Requester) (s : State) : Host.Outcome State Fault Refusal :=
  .next (s.request rq 0x42 State.doForceFallback)

/-- RESUME (R179). -/
def execResume (rq : Requester) (s : State) : Host.Outcome State Fault Refusal :=
  .next (s.request rq 0x43 State.doResume)

/-- RESTART (R198, R184). -/
def execRestart (rq : Requester) (s : State) : Host.Outcome State Fault Refusal :=
  .next (if s.held || !s.fullNode then s else s.restartRequest rq)

/-- ARM_CAPTURE (R172). -/
def execArmCapture (rq : Requester) (w : Option ArmWrite) (s : State) : Host.Outcome State Fault Refusal :=
  .next (s.request rq 0x50 (State.doArmCapture w))

/-- TRIGGER_CAPTURE (R173). -/
def execTriggerCapture (rq : Requester) (s : State) : Host.Outcome State Fault Refusal :=
  .next (s.request rq 0x51 State.doTriggerCapture)

/-- READ_CAPTURE (R170). -/
def execReadCapture (rq : Requester) (window channel : Byte) (s : State) : Host.Outcome State Fault Refusal :=
  .next (s.request rq 0x52 (State.doReadCapture window channel))

/-- RELEASE_CAPTURE (R171). -/
def execReleaseCapture (rq : Requester) (s : State) : Host.Outcome State Fault Refusal :=
  .next (s.request rq 0x53 State.doReleaseCapture)

end Sys2Proof.Machine
end

