-- ==== Sys2Proof/Machine/Resets.lean ====
section
/-! DEFINITION. The meanings of the resets and of start-up (R183 to R185). -/

namespace Sys2Proof.Machine

/-- POWER_ON_RESET (R183): whatever the part was held in. -/
def execPowerOnReset (s : State) : Host.Outcome State Fault Refusal := .next (s.clearAll .powerOn)

/-- SUPPLY_LOW_RESET (R183). -/
def execSupplyLowReset (s : State) : Host.Outcome State Fault Refusal := .next (s.conditionReset .supplyLow)

/-- PIN_RESET (R183). -/
def execPinReset (s : State) : Host.Outcome State Fault Refusal := .next (s.conditionReset .pin)

/-- START_UP (R185). -/
def execStartUp (pins : Byte) (reference upS upF : Bool) (s : State) : Host.Outcome State Fault Refusal :=
  .next (s.startUp pins reference upS upF)

/-- RESTART_TAKES_EFFECT (R184). -/
def execRestartTakesEffect (s : State) : Host.Outcome State Fault Refusal := .next (s.live State.restartEffect)

end Sys2Proof.Machine
end

