-- ==== Sys2Proof/Machine/TimedEvents.lean ====
section
/-! DEFINITION. The meanings of the time base's tick, of the timers' expiries and of the clock events. An expiry that is
not due changes nothing (log entry 8). -/

namespace Sys2Proof.Machine

/-- SOURCE_LOST (R28). -/
def execSourceLost (a : Byte) (s : State) : Host.Outcome State Fault Refusal := .next (s.live fun s => s.loseSource a)

/-- YARD_WINDOW_INDEX_TIMEOUT (R40). -/
def execYardWindowIndexTimeout (s : State) : Host.Outcome State Fault Refusal := .next (s.live State.yardTimeout)

/-- LAST_HANDED_OVER_TIMEOUT (R41). -/
def execLastHandedOverTimeout (r : Role) (s : State) : Host.Outcome State Fault Refusal :=
  .next (s.live fun s => s.handedTimeout r)

/-- EVALUATION_STATE_TIMEOUT (R59). -/
def execEvaluationStateTimeout (e : Element) (s : State) : Host.Outcome State Fault Refusal :=
  .next (s.live fun s => s.evaluationTimeout e)

/-- CAPTURE_STORE_TIMEOUT (R165). -/
def execCaptureStoreTimeout (s : State) : Host.Outcome State Fault Refusal := .next (s.live State.captureStoreTimeout)

/-- SWITCH_TIMEOUT (R98). -/
def execSwitchTimeout (k : StageIx) (s : State) : Host.Outcome State Fault Refusal := .next (s.live (State.switchTimeout k))

/-- MOVING_TIMER_EXPIRY (R73). -/
def execMovingTimerExpiry (k : StageIx) (s : State) : Host.Outcome State Fault Refusal :=
  .next (s.live fun s => s.movingExpiry k)

/-- UNIT_SILENCE (R76). -/
def execUnitSilence (k : StageIx) (s : State) : Host.Outcome State Fault Refusal := .next (s.live fun s => s.silenceExpiry k)

/-- TIME_BASE_TICK (R181). -/
def execTimeBaseTick (s : State) : Host.Outcome State Fault Refusal := .next (s.live State.tick)

/-- COOLDOWN_EXPIRY (R78). -/
def execCooldownExpiry (k : StageIx) (s : State) : Host.Outcome State Fault Refusal :=
  .next (s.live fun s => s.cooldownOver k)

/-- CLOSE_GAP_EXPIRY (R94). -/
def execCloseGapExpiry (s : State) : Host.Outcome State Fault Refusal := .next (s.live State.closeGapExpiry)

/-- WATCHDOG_EXPIRY (R180). -/
def execWatchdogExpiry (s : State) : Host.Outcome State Fault Refusal := .next (s.live State.watchdogExpiry)

/-- REFERENCE_CLOCK_LOSS (R182). -/
def execReferenceClockLoss (s : State) : Host.Outcome State Fault Refusal := .next (s.live State.referenceLoss)

/-- REFERENCE_CLOCK_RETURN (R182). -/
def execReferenceClockReturn (s : State) : Host.Outcome State Fault Refusal := .next (s.live State.referenceReturn)

/-- REFERENCE_GAP_DURING_RECOVERY (R182). -/
def execReferenceGapDuringRecovery (s : State) : Host.Outcome State Fault Refusal := .next (s.live State.referenceGap)

end Sys2Proof.Machine
end

