-- ==== Sys2Proof/Machine/Dispatch.lean ====
section
/-! DEFINITION. The meaning of every command: one arm per row of spec/opcode_table.json. -/

namespace Sys2Proof.Machine

/-- The command's effect on everything but the queue. -/
def exec (i : Instr) (s : State) : Host.Outcome State Fault Refusal :=
  match i with
  | .frameReceived p bs => Sys2Proof.Machine.execFrameReceived p bs s
  | .transitSlotTaken p b => Sys2Proof.Machine.execTransitSlotTaken p b s
  | .cutThroughEligible p bs => Sys2Proof.Machine.execCutThroughEligible p bs s
  | .frameOverlength p bs => Sys2Proof.Machine.execFrameOverlength p bs s
  | .frameBoundary p => Sys2Proof.Machine.execFrameBoundary p s
  | .linkDown p => Sys2Proof.Machine.execLinkDown p s
  | .linkUp p => Sys2Proof.Machine.execLinkUp p s
  | .sourceLost addr => Sys2Proof.Machine.execSourceLost addr s
  | .yardWindowIndexTimeout => Sys2Proof.Machine.execYardWindowIndexTimeout s
  | .lastHandedOverTimeout r => Sys2Proof.Machine.execLastHandedOverTimeout r s
  | .evaluationStateTimeout e => Sys2Proof.Machine.execEvaluationStateTimeout e s
  | .captureStoreTimeout => Sys2Proof.Machine.execCaptureStoreTimeout s
  | .switchTimeout k => Sys2Proof.Machine.execSwitchTimeout k s
  | .movingTimerExpiry k => Sys2Proof.Machine.execMovingTimerExpiry k s
  | .unitSilence k => Sys2Proof.Machine.execUnitSilence k s
  | .timeBaseTick => Sys2Proof.Machine.execTimeBaseTick s
  | .cooldownExpiry k => Sys2Proof.Machine.execCooldownExpiry k s
  | .closeGapExpiry => Sys2Proof.Machine.execCloseGapExpiry s
  | .readStatusPart rq => Sys2Proof.Machine.execReadStatusPart rq s
  | .readStatusControl rq => Sys2Proof.Machine.execReadStatusControl rq s
  | .readStatusStages rq first => Sys2Proof.Machine.execReadStatusStages rq first s
  | .readStatusHarmonic rq => Sys2Proof.Machine.execReadStatusHarmonic rq s
  | .readStatusCapture rq => Sys2Proof.Machine.execReadStatusCapture rq s
  | .readMeasurements rq selector roles => Sys2Proof.Machine.execReadMeasurements rq selector roles s
  | .readCounters rq => Sys2Proof.Machine.execReadCounters rq s
  | .clearCounters rq => Sys2Proof.Machine.execClearCounters rq s
  | .readStage rq stage => Sys2Proof.Machine.execReadStage rq stage s
  | .writeStage rq stage w => Sys2Proof.Machine.execWriteStage rq stage w s
  | .block rq stage => Sys2Proof.Machine.execBlock rq stage s
  | .unblock rq stage => Sys2Proof.Machine.execUnblock rq stage s
  | .release rq stage => Sys2Proof.Machine.execRelease rq stage s
  | .manualOpen rq stage => Sys2Proof.Machine.execManualOpen rq stage s
  | .manualClose rq stage => Sys2Proof.Machine.execManualClose rq stage s
  | .captureBalance rq stage => Sys2Proof.Machine.execCaptureBalance rq stage s
  | .clearMap rq => Sys2Proof.Machine.execClearMap rq s
  | .appendMap rq entries => Sys2Proof.Machine.execAppendMap rq entries s
  | .readMap rq start => Sys2Proof.Machine.execReadMap rq start s
  | .writeControlSet rq j w => Sys2Proof.Machine.execWriteControlSet rq j w s
  | .writeControlPhases rq w => Sys2Proof.Machine.execWriteControlPhases rq w s
  | .writeHarmonic rq w => Sys2Proof.Machine.execWriteHarmonic rq w s
  | .writeLink rq w => Sys2Proof.Machine.execWriteLink rq w s
  | .enterService rq => Sys2Proof.Machine.execEnterService rq s
  | .enterConfig rq => Sys2Proof.Machine.execEnterConfig rq s
  | .forceFallback rq => Sys2Proof.Machine.execForceFallback rq s
  | .resume rq => Sys2Proof.Machine.execResume rq s
  | .restart rq => Sys2Proof.Machine.execRestart rq s
  | .restartTakesEffect => Sys2Proof.Machine.execRestartTakesEffect s
  | .armCapture rq w => Sys2Proof.Machine.execArmCapture rq w s
  | .triggerCapture rq => Sys2Proof.Machine.execTriggerCapture rq s
  | .readCapture rq window channel => Sys2Proof.Machine.execReadCapture rq window channel s
  | .releaseCapture rq => Sys2Proof.Machine.execReleaseCapture rq s
  | .watchdogExpiry => Sys2Proof.Machine.execWatchdogExpiry s
  | .referenceClockLoss => Sys2Proof.Machine.execReferenceClockLoss s
  | .referenceClockReturn => Sys2Proof.Machine.execReferenceClockReturn s
  | .powerOnReset => Sys2Proof.Machine.execPowerOnReset s
  | .supplyLowReset => Sys2Proof.Machine.execSupplyLowReset s
  | .pinReset => Sys2Proof.Machine.execPinReset s
  | .startUp pins reference upS upF => Sys2Proof.Machine.execStartUp pins reference upS upF s
  | .kindByteArrives p b => Sys2Proof.Machine.execKindByteArrives p b s
  | .referenceGapDuringRecovery => Sys2Proof.Machine.execReferenceGapDuringRecovery s

end Sys2Proof.Machine
end

