-- ==== Sys2Proof/Machine/Encode.lean ====
section
/-! DEFINITION. The payload of a MANAGE frame that carries a request, written out field by field from the rules that own the
requests (R187, Tables 2-2, 4-1, 6-1, 11-1, 11-3 and 11-4). The request decoder of Manage.lean reads it back. -/

namespace Sys2Proof.Machine

/-- A field of two bytes, high byte first. -/
def enc16 (w : BitVec 16) : List Byte := [w.extractLsb' 8 8, w.extractLsb' 0 8]

/-- A field of three bytes, high byte first. -/
def enc24 (w : BitVec 24) : List Byte := [w.extractLsb' 16 8, w.extractLsb' 8 8, w.extractLsb' 0 8]

def encFlags (fs : List Bool) : List Byte := fs.flatMap encFlag

/-- The fields of Table 4-1. -/
def encStageWrite (w : StageWrite) : List Byte :=
  encFlag w.enabled ++ [w.unit, w.rank, w.effect] ++ enc16 w.cooldown ++ enc16 w.alarmLevel ++ enc16 w.alarmDelay
    ++ enc16 w.tripLevel ++ enc16 w.tripDelay ++ encOpt 4 (w.compensation.map fun c => enc16 c.1 ++ enc16 c.2)
    ++ [BitVec.ofNat 8 w.orders.length] ++ w.orders ++ enc16 w.thdLimit ++ enc16 w.thdDelay ++ enc24 w.operations

/-- An entry of Table 2-2. -/
def encEntryWrite (e : MapEntryWrite) : List Byte := [e.source, e.slot, e.role] ++ enc16 e.gain ++ encFlag e.capture

/-- The settings of Table 6-1. -/
def encSetWrite (w : ControlSetWrite) : List Byte :=
  enc16 w.setpoint ++ [w.halfBand] ++ enc16 w.level ++ enc16 w.leak ++ enc16 w.settleHold ++ enc16 w.vmax
    ++ enc16 w.fastInterval ++ enc16 w.deadLevel ++ [w.deadDelay] ++ enc16 w.restoreLevel ++ enc16 w.restoreDelay

/-- The harmonic table (R149). -/
def encHarmonicWrite (w : HarmonicWrite) : List Byte :=
  [BitVec.ofNat 8 w.orders.length] ++ w.orders.flatMap (fun x => x.1 :: enc16 x.2) ++ enc16 w.thdLimit
    ++ enc16 w.alarmDelay ++ enc16 w.recoverDelay

/-- The settings of Table 11-4. -/
def encLinkWrite (w : LinkWrite) : List Byte :=
  w.checkModes.toList ++ enc16 w.threshold ++ enc16 w.watchdog ++ encFlags w.alarmMask.toList
    ++ [w.noticeAddress, w.nominal, w.closeLimit] ++ enc16 w.closeGap ++ enc16 w.closeTimeout ++ enc16 w.openTimeout
    ++ enc16 w.silence

/-- A parameter part that may be empty. -/
def encFull {α : Type} (enc : α → List Byte) : Option α → List Byte
  | none => []
  | some x => enc x

def setSelector : SetId → Byte
  | .A => 0 | .B => 1

/-- The requester, the request kind of Table 11-3 and the parameter part of a request row; `none` for the other rows. -/
def requestParts : Instr → Option (Requester × Byte × List Byte)
  | .readStatusPart rq => some (rq, 0x01, [0])
  | .readStatusControl rq => some (rq, 0x01, [1])
  | .readStatusStages rq first => some (rq, 0x01, [2, first])
  | .readStatusHarmonic rq => some (rq, 0x01, [3])
  | .readStatusCapture rq => some (rq, 0x01, [4])
  | .readMeasurements rq selector roles => some (rq, 0x02, [selector, BitVec.ofNat 8 roles.length] ++ roles)
  | .readCounters rq => some (rq, 0x03, [])
  | .clearCounters rq => some (rq, 0x04, [])
  | .readStage rq k => some (rq, 0x10, [k])
  | .writeStage rq k w => some (rq, 0x11, k :: encStageWrite w)
  | .block rq k => some (rq, 0x12, [k])
  | .unblock rq k => some (rq, 0x13, [k])
  | .release rq k => some (rq, 0x14, [k])
  | .manualOpen rq k => some (rq, 0x15, [k])
  | .manualClose rq k => some (rq, 0x16, [k])
  | .captureBalance rq k => some (rq, 0x17, [k])
  | .clearMap rq => some (rq, 0x20, [])
  | .appendMap rq es => some (rq, 0x21, BitVec.ofNat 8 es.length :: es.flatMap encEntryWrite)
  | .readMap rq start => some (rq, 0x22, [start])
  | .writeControlSet rq i w => some (rq, 0x30, setSelector i :: encFull encSetWrite w)
  | .writeControlPhases rq w => some (rq, 0x30, 2 :: encFull (fun p => encFlags [p.a, p.b, p.c]) w)
  | .writeHarmonic rq w => some (rq, 0x31, encFull encHarmonicWrite w)
  | .writeLink rq w => some (rq, 0x32, encFull encLinkWrite w)
  | .enterService rq => some (rq, 0x40, [])
  | .enterConfig rq => some (rq, 0x41, [])
  | .forceFallback rq => some (rq, 0x42, [])
  | .resume rq => some (rq, 0x43, [])
  | .restart rq => some (rq, 0x44, [])
  | .armCapture rq w => some (rq, 0x50, encFull (fun x => [x.mode, x.preCount] ++ encFlags x.mask.toList) w)
  | .triggerCapture rq => some (rq, 0x51, [])
  | .readCapture rq window channel => some (rq, 0x52, [window, channel])
  | .releaseCapture rq => some (rq, 0x53, [])
  | .frameReceived .. | .transitSlotTaken .. | .cutThroughEligible .. | .frameOverlength .. | .frameBoundary ..
  | .linkDown .. | .linkUp .. | .sourceLost .. | .yardWindowIndexTimeout | .lastHandedOverTimeout ..
  | .evaluationStateTimeout .. | .captureStoreTimeout | .switchTimeout .. | .movingTimerExpiry .. | .unitSilence ..
  | .timeBaseTick | .cooldownExpiry .. | .closeGapExpiry | .restartTakesEffect | .watchdogExpiry | .referenceClockLoss
  | .referenceClockReturn | .powerOnReset | .supplyLowReset | .pinReset | .startUp .. | .kindByteArrives ..
  | .referenceGapDuringRecovery => none

/-- The MANAGE payload of a request (Table 11-1). -/
def managePayload (number : BitVec 16) (kind : Byte) (params : List Byte) : List Byte := kind :: enc16 number ++ params

end Sys2Proof.Machine
end

