-- ==== Sys2Proof/Safety.lean ====
section
/-! DEFINITION. What counts as a safe state: the standing facts the specification states about its collections, its ports and
its switching operations. Each is a predicate of one state; the obligations say that every step keeps it. -/

namespace Sys2Proof.Machine

/-- Management executes requests: the part runs and is a full node (R3, R183). -/
def State.executes (s : State) : Prop := s.held = false ∧ s.fullNode = true

/-- What clearing the counters may touch: `t` is `s` but for its twenty counters. -/
def sameButCounters (s t : State) : Prop :=
  s = { t with
    portS := { t.portS with ctr := s.portS.ctr }
    portF := { t.portF with ctr := s.portF.ctr }
    preemptions := s.preemptions
    repliesDropped := s.repliesDropped
    noticesDropped := s.noticesDropped
    malformedSamples := s.malformedSamples
    lateSamples := s.lateSamples
    mapOverflow := s.mapOverflow
    malformedPositions := s.malformedPositions
    cap := { t.cap with missed := s.cap.missed } }

/-! ### Frames: what a kind of event may touch -/

/-- Notices touch the up insert queue with its sequence number and the counter of dropped notices: `t` is `s` otherwise. -/
def onlyNoticed (s t : State) : Prop :=
  t = { s with
    portS := { s.portS with ins := t.portS.ins, seq := t.portS.seq }
    noticesDropped := t.noticesDropped }

/-- Gathering, selections and the ends of operations touch the stage records, the command queue, the tag counter, the
last-close time, the two ports, the counters of notices and preemptions, and capture: `t` is `s` otherwise. -/
def onlySwitched (s t : State) : Prop :=
  t = { s with
    portS := { s.portS with ins := t.portS.ins, seq := t.portS.seq }
    portF := t.portF
    preemptions := t.preemptions
    noticesDropped := t.noticesDropped
    stages := t.stages
    queue := t.queue
    tag := t.tag
    lastClose := t.lastClose
    cap := t.cap }

/-- The evaluation of windows touches, beyond switching, the roles, the tracker, the evaluation states, voltage control and the
bus alarms: `t` is `s` otherwise. -/
def onlyEvaluated (s t : State) : Prop :=
  onlySwitched { s with roles := t.roles, tracker := t.tracker, evals := t.evals, vc := t.vc, alarms := t.alarms } t

/-- What an edit of the channel map that changes the list of capture channels does to capture, by its state: `u` holds the
new map, `t` is the result (R174, R169; without a capture window there is no record to hold, with 16 of them the record is
held too, log entry 44). -/
structure CaptureEdited (u t : State) : Prop where
  disarmed : u.cap.status = .disarmed → t = { u with cap := { u.cap with store := [] } }
  armed : u.cap.status = .armed →
    t = { u with cap := { u.cap with store := [], status := if u.channels = [] then .disarmed else .armed } }
  empty : u.cap.status = .recording → u.cap.store = [] →
    t = { u with cap := { u.cap with status := if u.channels = [] then .disarmed else .armed, header := none } }
  cut : ∀ h, u.cap.status = .recording → u.cap.store ≠ [] → u.cap.header = some h →
    t = State.notice { u with cap := { u.cap with status := .held, cutShort := true } }
      (.captureReady h u.cap.store.length true)
  held : u.cap.status = .held → t = u

/-! ### Ports (R3, R8, R13, R14, R17, R19) -/

/-- What one port holds is within its capacities, and nothing at all while it is DOWN. -/
structure PortSafe (q : PortState) (inserts : Nat) : Prop where
  slots : q.buf.length ≤ 8
  queue : q.ins.length ≤ inserts
  down : q.up = false → q.rx = .idle ∧ q.buf = [] ∧ q.ins = [] ∧ q.tx = .idle

/-- The two ports: 8 transit slots each, 16 frames up, 8 frames down; both DOWN while the part is held in reset; no insert
frame in a forwarding-only part. -/
structure ChainSafe (s : State) : Prop where
  portS : PortSafe s.portS 16
  portF : PortSafe s.portF 8
  held : s.held = true → s.portS.up = false ∧ s.portF.up = false
  forwarding : s.fullNode = false → s.portS.ins = [] ∧ s.portF.ins = []

/-! ### Switching (R88, R94, R95, R103) -/

/-- The command queue, the operations in flight and the stage states agree. -/
structure SwitchingSafe (s : State) : Prop where
  /-- At most one entry per stage (R88). -/
  single : s.queue.Pairwise fun a b => a.stage ≠ b.stage
  /-- A CLOSE is always of class NORMAL (section 5.1). -/
  closeNormal : ∀ e ∈ s.queue, e.op = .close → e.cls = .normal
  /-- CLOSING exactly while a CLOSE is in flight, OPENING exactly while an OPEN is (R95). -/
  closing : ∀ k, (s.stage k).state = .closing ↔ ∃ f, (s.stage k).inFlight = some f ∧ f.op = .close
  opening : ∀ k, (s.stage k).state = .opening ↔ ∃ f, (s.stage k).inFlight = some f ∧ f.op = .open
  /-- No moving timer runs beside an operation in flight (R95, R73). -/
  still : ∀ k, (s.stage k).inFlight ≠ none → (s.stage k).moving = none
  /-- Close pacing (R94). -/
  paced : s.closeFlights ≤ s.link.closeLimit
  /-- Nothing queued or in flight in CONFIG (R103). -/
  config : s.mode = .config → s.queue = [] ∧ ∀ k, (s.stage k).inFlight = none
  /-- A part held in reset is in CONFIG (R176, R183). -/
  held : s.held = true → s.mode = .config
  /-- The tag counter skips 0 (R95). -/
  tagged : s.tag ≠ 0

/-! ### Lockouts (R69 to R72, R82, R135 to R137) -/

/-- A tripped stage stays under its lockout until it is opened. The further fields say what this rests on: the states of
enabled and of closed stages, and that a PROTECT entry is an OPEN that no change to FALLBACK removes. -/
structure TripSafe (s : State) : Prop where
  /-- ABSENT exactly while not enabled (R66). -/
  absent : ∀ k, (s.stage k).state = .absent ↔ (s.stage k).cfg.enabled = false
  /-- No entry stands for an absent stage (R91). -/
  known : ∀ e ∈ s.queue, (s.stage e.stage).state ≠ .absent
  /-- A PROTECT entry is an OPEN of another origin than MANUAL (sections 5.1 and 5.5). -/
  protects : ∀ e ∈ s.queue, e.cls = .protect → e.op = .open ∧ e.origin ≠ .manual
  /-- An enabled stage reported CLOSED is CLOSED or FAILED, or has an operation in flight (R71, R74). -/
  placed : ∀ k, (s.stage k).cfg.enabled = true → (s.stage k).reported = some .closed →
    (s.stage k).state = .closed ∨ (s.stage k).state = .failed ∨ (s.stage k).state = .closing
      ∨ (s.stage k).state = .opening
  /-- "Awaiting position" stands with OPEN_COOLING alone (R69, R95). -/
  awaits : ∀ k, (s.stage k).awaiting = true → (s.stage k).state = .openCooling
  /-- Lockout pending stands with these states alone (R70, R71, R97, R135). -/
  pending : ∀ k, (s.stage k).lockoutPending = true →
    (s.stage k).state = .closed ∨ (s.stage k).state = .failed ∨ (s.stage k).state = .closing
      ∨ (s.stage k).state = .opening
  /-- A stage with lockout pending is FAILED, or has an OPEN in flight or a PROTECT OPEN queued (R137). -/
  stands : ∀ k, (s.stage k).lockoutPending = true →
    (s.stage k).state = .failed ∨ (∃ f, (s.stage k).inFlight = some f ∧ f.op = .open)
      ∨ ∃ e ∈ s.queue, e.stage = k ∧ e.op = .open ∧ e.cls = .protect

/-! ### The in-service list (R68) -/

/-- The list holds each stage whose reported position is CLOSED once, and no other. -/
structure InServiceSafe (s : State) : Prop where
  nodup : s.inService.Nodup
  exact : ∀ k, k ∈ s.inService ↔ (s.stage k).reported = some .closed

/-! ### The channel map and the source table (R21, R24, R25, section 2.3) -/

structure MapSafe (s : State) : Prop where
  room : s.map.length ≤ 64
  twice : ∀ r, (entriesOf s.map r).length ≤ 2
  pairs : s.map.Pairwise fun a b => ¬ (a.source = b.source ∧ a.slot = b.slot)
  captures : (s.map.filter (·.capture)).length ≤ 8
  sources : s.sources.map (·.addr) = sourcesOf s.map
  few : s.sources.length ≤ 8

/-! ### The capture store (R165, R168) -/

structure CaptureSafe (s : State) : Prop where
  count : s.cap.preCount ≤ 15
  record : s.cap.store.length ≤ 16
  ring : s.cap.status = .disarmed ∨ s.cap.status = .armed → s.cap.store.length ≤ s.cap.preCount + 1
  header : s.cap.status = .recording ∨ s.cap.status = .held → s.cap.header ≠ none

/-! ### Counters (R18, R42, R67, R166) -/

/-- The twenty counters of R194. -/
def State.counters (s : State) : List Nat :=
  [s.portS.ctr.good, s.portS.ctr.checkFailures, s.portS.ctr.transitFull, s.portS.ctr.wrongSide, s.portS.ctr.poisoned,
    s.portS.ctr.linkDiscards, s.repliesDropped, s.noticesDropped,
    s.portF.ctr.good, s.portF.ctr.checkFailures, s.portF.ctr.transitFull, s.portF.ctr.wrongSide, s.portF.ctr.poisoned,
    s.preemptions, s.portF.ctr.linkDiscards,
    s.malformedSamples, s.lateSamples, s.mapOverflow, s.malformedPositions, s.cap.missed]

/-- No counter stands above the maximum at which it stops. -/
def CountersSafe (s : State) : Prop := ∀ n ∈ s.counters, n ≤ 4294967295

end Sys2Proof.Machine
end

