-- ==== Sys2Proof/WellFormed.lean ====
section
/-! DEFINITION. Which commands can arrive at all: what a line event and a MANAGE payload have room for. A refused request
is well-formed; its refusal is the machine's (R188). -/

namespace Sys2Proof

/-- A line event brings at most the 257 bytes at which a frame is over length (R1). -/
abbrev WellFormed.bytesFit (bs : List Byte) : Bool := decide (bs.length ≤ 257)

/-- A request's parameter part holds at most 245 bytes (Table 11-1). -/
abbrev WellFormed.parametersFit (n : Nat) : Bool := decide (n ≤ 245)

/-- The check of one command. -/
def WellFormed : Instr → Bool
  | .frameReceived _ bs => WellFormed.bytesFit bs
  | .cutThroughEligible _ bs => WellFormed.bytesFit bs && decide (1 ≤ bs.length)
  | .frameOverlength _ bs => WellFormed.bytesFit bs && decide (1 ≤ bs.length)
  | .readMeasurements _ _ roles => WellFormed.parametersFit (2 + roles.length)
  | .writeStage _ _ w => WellFormed.parametersFit (28 + w.orders.length)
  | .appendMap _ es => WellFormed.parametersFit (1 + 6 * es.length)
  | .writeHarmonic _ (some w) => WellFormed.parametersFit (7 + 3 * w.orders.length)
  | .transitSlotTaken _ _ | .frameBoundary _ | .linkDown _ | .linkUp _ | .sourceLost _ | .yardWindowIndexTimeout
  | .lastHandedOverTimeout _ | .evaluationStateTimeout _ | .captureStoreTimeout | .switchTimeout _
  | .movingTimerExpiry _ | .unitSilence _ | .timeBaseTick | .cooldownExpiry _ | .closeGapExpiry
  | .readStatusPart _ | .readStatusControl _ | .readStatusStages _ _ | .readStatusHarmonic _ | .readStatusCapture _
  | .readCounters _ | .clearCounters _ | .readStage _ _ | .block _ _ | .unblock _ _ | .release _ _
  | .manualOpen _ _ | .manualClose _ _ | .captureBalance _ _ | .clearMap _ | .readMap _ _
  | .writeControlSet _ _ _ | .writeControlPhases _ _ | .writeHarmonic _ none | .writeLink _ _
  | .enterService _ | .enterConfig _ | .forceFallback _ | .resume _ | .restart _ | .restartTakesEffect
  | .armCapture _ _ | .triggerCapture _ | .readCapture _ _ _ | .releaseCapture _ | .watchdogExpiry
  | .referenceClockLoss | .referenceClockReturn | .powerOnReset | .supplyLowReset | .pinReset | .startUp _ _ _ _
  | .kindByteArrives _ _ | .referenceGapDuringRecovery => true

end Sys2Proof
end

