-- ==== Sys2Proof/Certificates/Slice0/Obligations.lean ====
section
/-! DEFINITION. The statements about the GY24, chapter by chapter of its specification. Each docstring names the rules the
statement rests on. -/

open Sys2Proof Sys2Proof.Machine

/-! ### The queue of commands -/

/-- The step runs the command at the front of the queue, on the state that holds the rest of the queue. -/
def Obligations.StepRunsFrontCommand : Prop :=
  ∀ (c : Instr) (cs : List Instr) (s : State), step { s with pending := c :: cs } = exec c { s with pending := cs }

/-- With nothing waiting, each running transmission has one byte more on the line, never one that is not there to send
(the model's choice, log entry 2; R10: the output sends each byte only after it has been received). -/
def Obligations.EmptyQueueSendsAByte : Prop :=
  ∀ s : State, s.pending = [] → s.held = false →
    ∃ t : State, step s = .next t
      ∧ t = { s with portS := { s.portS with tx := t.portS.tx }, portF := { s.portF with tx := t.portF.tx } }
      ∧ ∀ p, ((s.port p).tx = .idle → (t.port p).tx = .idle)
        ∧ (∀ f n, (s.port p).tx = .insert f n → (t.port p).tx = .insert f (min (n + 1) f.bytes.length))
        ∧ (∀ n slot rest, (s.port p).tx = .transit n → (s.port p).buf = slot :: rest →
            (t.port p).tx = .transit (min (n + 1) slot.bytes.length))

/-! ### Chapter 1: the chain ports -/

/-- KIND_BYTE_ARRIVES fixes the check mode of the frame's kind and the threshold from the link settings as they stand, a code
in no row of Table 1-2 taking the entry OTHER. The destination byte decides: held in the receive store for the part itself,
discarded and counted for a port that is DOWN, counted as transit full with 8 slots occupied, and otherwise in the next
slot (R3, R4, R8, R9, R17). -/
def Obligations.KindAndDestinationBytes : Prop :=
  ((∀ (s : State) (p : Port) (b : Byte), s.held = false → (s.port p).up = true → (s.port p).rx = .idle →
      exec (.kindByteArrives p b) s = .next (s.modPort p fun q =>
        { q with rx := .receiving ⟨[b], s.link.checkModes[modeIx b], s.link.threshold, false⟩ }))
    ∧ modeIx 0x10 = 0 ∧ modeIx 0x11 = 1 ∧ modeIx 0x20 = 2 ∧ modeIx 0x30 = 3 ∧ modeIx 0x31 = 4 ∧ modeIx 0x32 = 5
    ∧ ∀ b : Byte, b ∉ [0x10, 0x11, 0x20, 0x30, 0x31, 0x32] → modeIx b = 6)
  ∧ (∀ (s : State) (p : Port) (b : Byte) (f : RxFrame), s.held = false → (s.port p).up = true →
      (s.port p).rx = .receiving f → f.bytes.length = 1 →
      exec (.transitSlotTaken p b) s = .next (
        let kept := s.modPort p fun q => { q with rx := .receiving { f with bytes := f.bytes ++ [b] } }
        let o := otherPort p
        if s.fullNode = true ∧ b = s.addr then kept
        else if (s.port o).up = false then
          kept.modPort o fun q => { q with ctr := { q.ctr with linkDiscards := bump q.ctr.linkDiscards } }
        else if 8 ≤ (s.port o).buf.length then
          kept.modPort p fun q => { q with ctr := { q.ctr with transitFull := bump q.ctr.transitFull } }
        else
          (s.modPort p fun q => { q with rx := .receiving { f with bytes := f.bytes ++ [b], inSlot := true } }).modPort o
            fun q => { q with buf := q.buf ++ [⟨f.bytes ++ [b], f.mode, f.threshold, .pending, false⟩] }))

/-- The bytes that bring a CUT frame's count to its threshold make its slot eligible, and touch nothing but that slot and
the receive store (R10). -/
def Obligations.CutThroughBecomesEligible : Prop :=
  ∀ (s : State) (p : Port) (bs : List Byte) (f : RxFrame) (front : List TransitSlot) (slot : TransitSlot),
    s.held = false → (s.port p).up = true → (s.port p).rx = .receiving f → f.inSlot = true → 2 ≤ f.bytes.length →
    (s.port (otherPort p)).buf = front ++ [slot] → slot.bytes = f.bytes → slot.mode = .cut →
    f.bytes.length + bs.length ≤ 256 → slot.threshold ≤ f.bytes.length + bs.length → lengthField (f.bytes ++ bs) ≤ 248 →
    exec (.cutThroughEligible p bs) s = .next (
      (s.modPort p fun q => { q with rx := .receiving { f with bytes := f.bytes ++ bs } }).modPort (otherPort p)
        fun q => { q with buf := front ++ [{ slot with bytes := slot.bytes ++ bs }] })
    ∧ TransitSlot.eligible { slot with bytes := slot.bytes ++ bs } = true

/-- The 257th byte makes the frame bad: counted, its bytes ignored, and its slot (the newest of its buffer) given up in the
same event, with a copy of it under way or without (R1; the moment is log entry 26). What becomes of such a copy is not
said here. -/
def Obligations.OverlengthFrameIsBad : Prop :=
  ∀ (s : State) (p : Port) (b : Byte) (more : List Byte) (f : RxFrame), s.held = false → (s.port p).up = true →
    (s.port p).rx = .receiving f → f.bytes.length = 256 →
    ∃ t : State, exec (.frameOverlength p (b :: more)) s = .next t
      ∧ (t.port p).rx = .ignoring
      ∧ (t.port p).ctr = { (s.port p).ctr with checkFailures := bump (s.port p).ctr.checkFailures }
      ∧ (t.port (otherPort p)).rx = (s.port (otherPort p)).rx
      ∧ (t.port p).buf = (s.port p).buf
      ∧ (t.port (otherPort p)).buf =
          (if f.inSlot then (s.port (otherPort p)).buf.dropLast else (s.port (otherPort p)).buf)
      ∧ t = { s with portS := t.portS, portF := t.portF, fresh := t.fresh }

/-- FRAME_RECEIVED takes in its bytes and then the end mark (the model's operands, log entry 3); at the end mark of a good
frame the frame is counted, its slot found good, and the frame handed on for consumption (R1, R6, R11). -/
def Obligations.GoodFrameIsCountedAndHandedOn : Prop :=
  (∀ (s : State) (p : Port) (bs : List Byte), s.held = false → (s.port p).up = true →
    exec (.frameReceived p bs) s = exec (.frameReceived p []) (s.rxBytes p bs))
  ∧ ∀ (s : State) (p : Port) (f : RxFrame), s.held = false → (s.port p).up = true →
    (s.port p).rx = .receiving f → frameGood f.bytes = true →
    exec (.frameReceived p []) s = .next (
      let counted := s.modPort p fun q => { q with rx := .idle, ctr := { q.ctr with good := bump q.ctr.good } }
      State.consume
        (if f.inSlot then counted.modPort (otherPort p) fun q =>
          { q with buf := q.buf.modify (q.buf.length - 1) fun x => { x with check := .good } }
        else counted) p f.bytes)

/-- Who consumes a good frame of a full node: MANAGE for the part or broadcast on port S, the one for the part itself
restarting the watchdog, SAMPLE and POSITION on port F but for destination 255; a frame to the part that is not consumed
is counted as wrong side; every other is left. A forwarding-only part consumes and counts none (R3, R4, R5, R180). That the
watchdog restarts before the request is executed is log entry 55. -/
def Obligations.ConsumptionByKindAndPort : Prop :=
  (∀ (s : State) (bs : List Byte), s.fullNode = true →
    s.consume .S bs =
      (if byteAt bs 0 = 0x30 ∧ (byteAt bs 1 = s.addr ∨ byteAt bs 1 = 0) then
        (if byteAt bs 1 = s.addr then s.restartWatchdog else s).manage (byteAt bs 2) (framePayload bs)
      else if byteAt bs 1 = s.addr then s.count .S fun c => { c with wrongSide := bump c.wrongSide }
      else s)
    ∧ s.consume .F bs =
      (if byteAt bs 1 ≠ 255 ∧ byteAt bs 0 = 0x10 then s.sampleFrame (byteAt bs 2) (framePayload bs)
      else if byteAt bs 1 ≠ 255 ∧ byteAt bs 0 = 0x11 then s.positionFrame (byteAt bs 2) (framePayload bs)
      else if byteAt bs 1 = s.addr then s.count .F fun c => { c with wrongSide := bump c.wrongSide }
      else s))
  ∧ ∀ (s : State) (p : Port) (bs : List Byte), s.fullNode = false → s.consume p bs = s

/-- The end mark of a bad frame: counted, nothing consumed, its slot given up in the same event (log entry 26); without a copy
under way nothing goes on the line, and a copy under way is ended poisoned, not before the byte being sent nor beyond the
bytes received (these bounds are log entry 5), and counted at the output port (R1, R10, R11). A frame of no bytes (the
operands of FRAME_RECEIVED are log entry 3) is bad by its count: it is counted, and nothing else changes (R1). -/
def Obligations.BadFrameLeavesItsSlot : Prop :=
  (∀ (s : State) (p : Port) (f : RxFrame), s.held = false → (s.port p).up = true →
    (s.port p).rx = .receiving f → frameGood f.bytes = false →
    ∃ t : State, exec (.frameReceived p []) s = .next t
      ∧ t = { s with portS := t.portS, portF := t.portF, fresh := t.fresh }
      ∧ (t.port p).rx = .idle
      ∧ (t.port p).ctr = { (s.port p).ctr with checkFailures := bump (s.port p).ctr.checkFailures }
      ∧ (f.inSlot = false → t.port (otherPort p) = s.port (otherPort p))
      ∧ ∀ front slot, f.inSlot = true → (s.port (otherPort p)).buf = front ++ [slot] →
          (t.port (otherPort p)).buf = front
          ∧ ((front ≠ [] ∨ ∀ n, (s.port (otherPort p)).tx ≠ .transit n) →
              t.port (otherPort p) = { s.port (otherPort p) with buf := front })
          ∧ ∀ sent, front = [] → (s.port (otherPort p)).tx = .transit sent →
              ∃ n, min (sent + 1) slot.bytes.length ≤ n ∧ n ≤ slot.bytes.length
                ∧ t.port (otherPort p) = { s.port (otherPort p) with
                    buf := []
                    tx := .idle
                    line := poisonedCopy slot.bytes n :: (s.port (otherPort p)).line
                    ctr := { (s.port (otherPort p)).ctr with
                      poisoned := bump (s.port (otherPort p)).ctr.poisoned } })
  ∧ ∀ (s : State) (p : Port), s.held = false → (s.port p).up = true → (s.port p).rx = .idle →
    exec (.frameReceived p []) s = .next (s.modPort p fun q =>
      { q with ctr := { q.ctr with checkFailures := bump q.ctr.checkFailures } })

/-- The choice of an idle port at FRAME_BOUNDARY (that command alone makes it, log entry 25). A PROTECT frame at the head of
the insert queue goes first, whatever "last served" holds; then a preempted frame that still stands at the head of the
transit buffer; then, with both candidates waiting, the one not served last; one alone is sent, and with none the port stays
idle. The transit frame keeps its slot while it is sent, the insert frame leaves its queue, which at port F brings a
selection (R8, R13, R14, R15, R16, R93). A transmission that ends at the boundary is noted whole first, a transit frame
leaving its slot; a transit frame still arriving cannot have ended. LINK_DOWN stops the port: its receive store, its transit
buffer and its insert queue are emptied and counted, the sending copy cut off without check bytes, a frame being received on
it counted as a check failure, and a copy of that frame under way on the other port ended poisoned after the bytes received.
The slot of such a frame is freed in the same event (log entry 26). On F the loss of queued frames brings a selection (log
entry 16), on S a pending RESTART takes effect, its reply being lost in the queue or while it is sent (log entry 17).
LINK_UP lets the port receive again from the next start mark, with everything else unchanged; LINK_DOWN of a port that is
DOWN and LINK_UP of one that is UP change nothing (log entry 3; R12, R17, R184). -/
def Obligations.ArbiterChoosesAtBoundary : Prop :=
  (∀ (s : State) (p : Port), s.held = false → (s.port p).up = true →
    ((s.port p).tx = .idle → exec (.frameBoundary p) s = .next (
      let q := s.port p
      let ready := q.buf.head?.any TransitSlot.eligible
      let again := q.buf.head?.any fun x => x.begun && x.eligible
      let protect := q.ins.head?.any InsertFrame.isProtect
      let sendTransit := s.modPort p fun q =>
        { q with tx := .transit 0, lastServed := .transit, buf := q.buf.modify 0 fun x => { x with begun := true } }
      match q.ins with
      | [] => if ready then sendTransit else s
      | f :: fs =>
        if protect = false ∧ (again = true ∨ (ready = true ∧ q.lastServed = .insert)) then sendTransit
        else
          let sent := s.modPort p fun q => { q with tx := .insert f 0, lastServed := .insert, ins := fs }
          if p = .F then sent.selection else sent))
    ∧ (∀ f n, (s.port p).tx = .insert f n → ¬ (p = .S ∧ s.restartPending = true ∧ f.kind = .reply true) →
        exec (.frameBoundary p) s
          = exec (.frameBoundary p) (s.modPort p fun q => { q with tx := .idle, line := ⟨f.bytes, .whole⟩ :: q.line }))
    ∧ ∀ n x xs, (s.port p).tx = .transit n → (s.port p).buf = x :: xs →
        (x.check = .good → exec (.frameBoundary p) s = exec (.frameBoundary p)
          (s.modPort p fun q => { q with tx := .idle, buf := xs, line := ⟨x.bytes, .whole⟩ :: q.line }))
        ∧ (x.check ≠ .good → exec (.frameBoundary p) s = .next s))
  ∧ (∀ (s : State) (p : Port), s.held = false → (s.port p).up = true →
      let q := s.port p
      let r := s.port (otherPort p)
      ∃ u : State,
        exec (.linkDown p) s = .next (match p with
          | .F => if q.ins = [] then u else u.selection
          | .S => if s.restartPending = true then u.enterRestart else u)
        ∧ u = { s with
            portS := u.portS, portF := u.portF, repliesDropped := u.repliesDropped, noticesDropped := u.noticesDropped
            fresh := u.fresh }
        ∧ u.port p = { q with
            up := false, rx := .idle, buf := [], ins := [], tx := .idle
            line := (u.port p).line
            ctr := { q.ctr with
              checkFailures := match q.rx with
                | .receiving _ => bump q.ctr.checkFailures
                | .idle | .ignoring => q.ctr.checkFailures
              linkDiscards := match p with
                | .S => bumpBy q.ctr.linkDiscards q.buf.length
                | .F => bumpBy (bumpBy q.ctr.linkDiscards q.buf.length) q.ins.length } }
        ∧ (q.tx = .idle → (u.port p).line = q.line)
        ∧ (∀ f n, q.tx = .insert f n → (u.port p).line = ⟨f.bytes.take n, .cutOff⟩ :: q.line)
        ∧ (∀ n x xs, q.tx = .transit n → q.buf = x :: xs → (u.port p).line = ⟨x.bytes.take n, .cutOff⟩ :: q.line)
        ∧ (p = .F → u.repliesDropped = s.repliesDropped ∧ u.noticesDropped = s.noticesDropped)
        ∧ (p = .S → u.noticesDropped = bumpBy s.noticesDropped (q.ins.filter fun f => f.kind == .notice).length
          ∧ u.repliesDropped = bumpBy s.repliesDropped
              (q.ins.filter fun f => f.kind == .reply false || f.kind == .reply true).length)
        ∧ ((∀ f, q.rx = .receiving f → f.inSlot = false) → u.port (otherPort p) = { r with rx := noSlot r.rx })
        ∧ ∀ f front slot, q.rx = .receiving f → f.inSlot = true → r.buf = front ++ [slot] →
          ((front ≠ [] ∨ ∀ n, r.tx ≠ .transit n) →
            u.port (otherPort p) = { r with rx := noSlot r.rx, buf := front })
          ∧ ∀ n, front = [] → r.tx = .transit n → u.port (otherPort p) = { r with
              rx := noSlot r.rx
              buf := []
              tx := .idle
              line := poisonedCopy slot.bytes slot.bytes.length :: r.line
              ctr := { r.ctr with poisoned := bump r.ctr.poisoned } })
  ∧ (∀ (s : State) (p : Port), s.held = false → (s.port p).up = false →
      exec (.linkUp p) s = .next (s.modPort p fun q => { q with up := true, rx := .idle }))
  ∧ ∀ (s : State) (p : Port), s.held = false →
      ((s.port p).up = false → exec (.linkDown p) s = .next s) ∧ ((s.port p).up = true → exec (.linkUp p) s = .next s)

/-- A COMMAND frame enters the down insert queue with the next down sequence number, a PROTECT one behind the PROTECT frames
and ahead of every NORMAL one, a NORMAL one at the tail; with port F DOWN it is counted and takes no number (R7, R13,
R17). A PROTECT frame entering while port F sends a transit frame cuts the copy off after the byte being sent, poisoned and
counted as a preemption alone; the transit frame keeps its place. Once its first check byte has begun it is let finish
(R16). -/
def Obligations.ProtectPreemptsTransit : Prop :=
  (∀ (s : State) (dst : Byte) (payload : List Byte) (x : TransitSlot) (xs : List TransitSlot) (sent : Nat),
    s.fullNode = true → s.portF.up = true → s.portF.tx = .transit sent → s.portF.buf = x :: xs →
    let t := s.enterDown .protect dst payload
    t.portF.buf = s.portF.buf ∧ t.portF.ctr = s.portF.ctr ∧ t.portF.ins.head?.any InsertFrame.isProtect = true
    ∧ t.portF.ins.length = s.portF.ins.length + 1
    ∧ (sent < 6 + lengthField x.bytes →
        t.portF.tx = .idle ∧ t.preemptions = bump s.preemptions
        ∧ t.portF.line = poisonedCopy x.bytes (min (sent + 1) x.bytes.length) :: s.portF.line)
    ∧ (6 + lengthField x.bytes ≤ sent →
        t.portF.tx = .transit sent ∧ t.preemptions = s.preemptions ∧ t.portF.line = s.portF.line))
  ∧ ∀ (s : State) (dst : Byte) (payload : List Byte), s.fullNode = true →
    let frame (cls : CmdClass) : InsertFrame := ⟨.command cls, formFrame 0x20 dst s.addr s.portF.seq payload⟩
    (s.portF.up = false → ∀ cls, s.enterDown cls dst payload =
      { s with portF := { s.portF with ctr := { s.portF.ctr with linkDiscards := bump s.portF.ctr.linkDiscards } } })
    ∧ (s.portF.up = true → ∃ first rest, s.portF.ins = first ++ rest ∧ (∀ f ∈ first, f.isProtect = true)
        ∧ (∀ f, rest.head? = some f → f.isProtect = false)
        ∧ (s.enterDown .protect dst payload).portF.ins = first ++ [frame .protect] ++ rest
        ∧ (s.enterDown .protect dst payload).portF.seq = s.portF.seq + 1)
    ∧ (s.portF.up = true → (s.portF.ins.head?.any InsertFrame.isProtect = false ∨ ∀ n, s.portF.tx ≠ .transit n) →
        s.enterDown .normal dst payload =
          { s with portF := { s.portF with ins := s.portF.ins ++ [frame .normal], seq := s.portF.seq + 1 } })

/-- Every frame the part forms passes the check of R1 at the next node; a copy ended poisoned is bad there, wherever it is
cut off (R1, R2, R7, R10). -/
def Obligations.FormedFramesPassPoisonedFail : Prop :=
  (∀ (code dst src seq : Byte) (payload : List Byte), payload.length ≤ 248 →
      frameGood (formFrame code dst src seq payload) = true
      ∧ framePayload (formFrame code dst src seq payload) = payload)
  ∧ (∀ (bs : List Byte) (n : Nat), frameGood (poisonedCopy bs n).bytes = false)

/-- A REPLY and a NOTICE enter the up insert queue whole with the next sequence number; with 16 frames in it or port S DOWN
they are counted as dropped, take no number, and nothing else changes (R7, R14, R17, R189, R199, R201). -/
def Obligations.RepliesAndNoticesEnterOrAreCounted : Prop :=
  ∀ s : State, s.fullNode = true →
    (s.portS.up = true → s.portS.ins.length < 16 →
      (∀ (rq : Requester) (kind : Byte) (restart : Bool) (a : Answer), s.reply rq kind restart a =
        { s with portS := { s.portS with
            seq := s.portS.seq + 1
            ins := s.portS.ins ++ [⟨.reply restart, formFrame 0x31 rq.source s.addr s.portS.seq
              (kind :: rq.number.extractLsb' 8 8 :: rq.number.extractLsb' 0 8 :: verdictCode a.verdict
                :: reasonCode a.reason :: (if a.already then 1 else 0) :: a.position :: a.data)⟩] } })
      ∧ ∀ n : Notice, s.notice n =
        { s with portS := { s.portS with
            seq := s.portS.seq + 1
            ins := s.portS.ins ++ [⟨.notice, formFrame 0x32 s.link.noticeAddress s.addr s.portS.seq
              ([n.code] ++ (match n.stage with | none => [0, 0] | some k => [1, BitVec.ofNat 8 k.val])
                ++ [s.now.extractLsb' 24 8, s.now.extractLsb' 16 8, s.now.extractLsb' 8 8, s.now.extractLsb' 0 8]
                ++ n.detail)⟩] } })
    ∧ ((s.portS.up = false ∨ 16 ≤ s.portS.ins.length) →
        (∀ (rq : Requester) (kind : Byte) (restart : Bool) (a : Answer),
          s.reply rq kind restart a = { s with repliesDropped := bump s.repliesDropped })
        ∧ ∀ n : Notice, s.notice n = { s with noticesDropped := bump s.noticesDropped })

/-! ### What every step keeps -/

/-- Every step keeps the ports within their capacities, empty while DOWN, DOWN while held in reset, and a forwarding-only
part without frames of its own (R3, R8, R13, R14, R17, R19). -/
def Obligations.StepKeepsChainSafe : Prop := ∀ s t : State, ChainSafe s → step s = .next t → ChainSafe t

/-- Every step keeps the command queue, the in-flight records and the stage states in agreement, the CLOSE operations in
flight within the close limit, and nothing queued or in flight in CONFIG (R88, R94, R95, R103). -/
def Obligations.StepKeepsSwitchingSafe : Prop := ∀ s t : State, SwitchingSafe s → step s = .next t → SwitchingSafe t

/-- Every step keeps in the in-service list each stage last reported CLOSED, once, and no other stage (R68). -/
def Obligations.StepKeepsInServiceSafe : Prop := ∀ s t : State, InServiceSafe s → step s = .next t → InServiceSafe t

/-- Every step keeps the channel map within 64 entries, 2 per role, distinct pairs and 8 capture flags, with the source
table naming its sources in order (R21, R23, R24, R25). -/
def Obligations.StepKeepsMapSafe : Prop := ∀ s t : State, MapSafe s → step s = .next t → MapSafe t

/-- Every step keeps the capture store within 16 windows, within P + 1 outside a record, and a record with its header
(R165, R167, R168, R172). -/
def Obligations.StepKeepsCaptureSafe : Prop := ∀ s t : State, CaptureSafe s → step s = .next t → CaptureSafe t

/-- Every step keeps the twenty counters at or below 4,294,967,295, where they stop (R18, R42, R67, R166). -/
def Obligations.StepKeepsCountersSafe : Prop := ∀ s t : State, CountersSafe s → step s = .next t → CountersSafe t

/-- The six hold right after reset. -/
def Obligations.ResetIsSafe : Prop :=
  ChainSafe State.reset ∧ SwitchingSafe State.reset ∧ InServiceSafe State.reset ∧ MapSafe State.reset
  ∧ CaptureSafe State.reset ∧ CountersSafe State.reset

/-! ### Chapter 2: sample intake and the channel map -/

/-- A SAMPLE frame: ignored from an unmapped source; malformed, or late by a counter difference of 0 or of 32768 upward, it
is counted and changes nothing else; every other is accepted, its quality byte read as GOOD, QUESTIONABLE or INVALID, its
slot values as signed numbers. An accepted frame sets its source's last counter and arrival time and no other source's, and
then works the three steps of R31: the source, the roles it feeds in map order (log entry 10), the yard window index (R20,
R29, R30, R31; a LOST source with a last counter is held to the ordering test too, log entry 36). The source counts the
frames of its current window that are not INVALID and name every slot of its map entries (read as each frame arrives, log
entry 35); at the last counter of the window the streak rises with 32 of them, up to 4, and is 0 otherwise; it is 0 as well
where a window has passed without its last counter, one that the counter jumped included (log entry 24). A streak of 4 makes
the source HEALTHY, with a SOURCE notice when its state changes (R29, R30). -/
def Obligations.SampleFramesByTheOrderingTest : Prop :=
  (∀ (s : State) (src : Byte) (payload : List Byte),
      ((∀ x ∈ s.sources, x.addr ≠ src) → s.sampleFrame src payload = s)
      ∧ ((∃ x ∈ s.sources, x.addr = src) →
          ((byteAt payload 3 = 0 ∨ 16 < (byteAt payload 3).toNat ∨ payload.length ≠ 4 + 2 * (byteAt payload 3).toNat) →
            s.sampleFrame src payload = { s with malformedSamples := bump s.malformedSamples })
          ∧ ∀ x, s.source? src = some x →
              1 ≤ (byteAt payload 3).toNat → (byteAt payload 3).toNat ≤ 16 →
              payload.length = 4 + 2 * (byteAt payload 3).toNat →
              let c := wordAt payload 0
              (∀ l, x.last = some l → (c = l ∨ 32768 ≤ (c - l).toNat) →
                s.sampleFrame src payload = { s with lateSamples := bump s.lateSamples })
              ∧ ((∀ l, x.last = some l → 1 ≤ (c - l).toNat ∧ (c - l).toNat ≤ 32767) →
                s.sampleFrame src payload = s.acceptSample x
                  ⟨c, if byteAt payload 2 = 0 then .good else if byteAt payload 2 = 1 then .questionable else .invalid,
                    (List.range (byteAt payload 3).toNat).map fun i => (wordAt payload (4 + 2 * i)).toInt⟩)))
  ∧ (∀ (s : State) (x : Source) (f : SampleFrame), s.source? x.addr = some x → acceptable x.last f.counter = true →
      let t := s.acceptSample x f
      (∃ y, t.source? x.addr = some y ∧ y.last = some f.counter ∧ y.arrival = s.now ∧ y.window = some (windowOf f.counter)
        ∧ (x.streak ≤ 4 → y.streak ≤ 4) ∧ (x.status ≠ .healthy → (y.status = .healthy ↔ y.streak = 4)))
      ∧ (let v := windowOf f.counter
        let whole : Prop := f.quality ≠ .invalid ∧ ∀ e ∈ s.map, e.source = x.addr → e.slot.val < f.values.length
        let passed : Prop := ∃ u l, x.window = some u ∧ x.last = some l ∧ u ≠ v ∧ ¬ (u + 1 = v ∧ l.toNat % 32 = 31)
        let before := if x.window = some v then x.qualified else 0
        ∀ n k : Nat, (whole → n = before + 1) → (¬ whole → n = before) → (passed → k = 0) → (¬ passed → k = x.streak) →
          let streak := if f.counter.toNat % 32 = 31 then (if n = 32 then min 4 (k + 1) else 0) else k
          let y : Source := { x with
            last := some f.counter, arrival := s.now, window := some v, qualified := n, streak := streak
            status := if streak = 4 then .healthy else x.status }
          let u : State := { s with sources := s.sources.map fun z => if z.addr = x.addr then y else z }
          t.source? x.addr = some y
          ∧ s.sourceFrame x f = (if y.status = x.status then u else u.notice (.source x.addr y.status)))
      ∧ (∀ a, a ≠ x.addr → t.source? a = s.source? a)
      ∧ onlyEvaluated { s with sources := t.sources, yardIx := t.yardIx } t
      ∧ t = State.yardFrame ((rolesOfSource s.map x.addr).foldl (State.roleFrame x.addr f) (s.sourceFrame x f)) x.addr
          (windowOf f.counter))
  ∧ ∀ (m : List MapEntry) (a : Byte) (r : Role),
      r ∈ rolesOfSource m a ↔ (∃ e, primaryOf m r = some e ∧ e.source = a) ∨ ∃ e, backupOf m r = some e ∧ e.source = a

/-- Window assembly of a role at an accepted frame. With a window open, frames of other sources than the serving entry's do
nothing; one of the same window stores its sample, missing, clipped and QUESTIONABLE marked, and the last counter closes the
window, complete when every position holds a sample; one of a window ahead closes it incomplete and opens anew. With none
open, a window that is ahead of the last handed-over one, or the first, is opened, served by a HEALTHY primary, else by a
HEALTHY backup, else handed over empty at once. The yard window index is set or advanced by a HEALTHY source alone, and the
roles that have neither opened nor handed over the window before it open it, in map order (log entry 10; R36, R37, R38, R39,
R40, R41). The capture store takes in the window of a channel's role by the table of R165, a new capture window with its
pieces unfilled but the role's (R164), and a recording is complete when a handover leaves its sixteenth window whole or brings
the next one, with its CAPTURE_READY notice (R168; which windows count for the 10 s is log entry 38, wrapped indices log entry
39, the unfilled pieces' served-by log entry 21, a sixteenth window that was whole at the trigger log entry 50). A window that
is neither equal to the compared one nor ahead of it counts as earlier or behind, the one 1024 away too (log entry 51), and a
stored sample leaves every other position as it stands (log entry 52). -/
def Obligations.WindowsAreAssembledAndCaptured : Prop :=
  (∀ (s : State) (src : Byte) (f : SampleFrame) (r : Role),
    let w := windowOf f.counter
    let n := f.counter.toNat % 32
    let a := s.role r
    let emptied : State := { s with roles := s.roles.set (roleIx r) { a with openWin := none } }
    (∀ o e, a.openWin = some o → servingEntry s.map r o.by_ = some e →
      (e.source ≠ src → State.roleFrame src f s r = s)
      ∧ (e.source = src → w ≠ o.w → ahead w o.w = false → State.roleFrame src f s r = s)
      ∧ (e.source = src → w = o.w →
        let x : OpenWindow := match entrySample e f with
          | none => { o with pos := o.pos.set n none }
          | some (v, clip) => { o with
              pos := o.pos.set n (some v)
              clipped := o.clipped || clip
              questionable := o.questionable || f.quality == .questionable }
        (n ≠ 31 → State.roleFrame src f s r = { s with roles := s.roles.set (roleIx r) { a with openWin := some x } })
        ∧ (n = 31 → State.roleFrame src f s r
            = emptied.handOver r ⟨o.w, o.by_, x.pos.all (·.isSome), x.clipped, x.questionable, x.pos⟩))
      ∧ (e.source = src → ahead w o.w = true → State.roleFrame src f s r
          = State.roleFrame src f (emptied.handOver r ⟨o.w, o.by_, false, o.clipped, o.questionable, o.pos⟩) r))
    ∧ (a.openWin = none →
      (∀ h t, a.handed = some (h, t) → ahead w h = false → State.roleFrame src f s r = s)
      ∧ ((∀ h t, a.handed = some (h, t) → ahead w h = true) →
        (s.chooseServing r = .none → State.roleFrame src f s r
          = s.handOver r ⟨w, .none, false, false, false, List.replicate 32 none⟩)
        ∧ ∀ b e, b ≠ .none → s.chooseServing r = b → servingEntry s.map r b = some e →
          let opened : State := { s with
            roles := s.roles.set (roleIx r) { a with openWin := some ⟨w, b, List.replicate 32 none, false, false⟩ } }
          State.roleFrame src f s r = (if e.source = src then State.roleFrame src f opened r else opened)))
    ∧ (s.chooseServing r = .primary ↔ ∃ e, primaryOf s.map r = some e ∧ s.sourceHealthy e.source = true)
    ∧ (s.chooseServing r = .backup ↔ (∀ e, primaryOf s.map r = some e → s.sourceHealthy e.source = false)
        ∧ ∃ e, backupOf s.map r = some e ∧ s.sourceHealthy e.source = true))
  ∧ (∀ (s : State) (src : Byte) (w : WindowIx),
      ((s.sourceHealthy src = false ∨ ∃ y t, s.yardIx = some (y, t) ∧ ahead w y = false) → s.yardFrame src w = s)
      ∧ (s.sourceHealthy src = true → (∀ y t, s.yardIx = some (y, t) → ahead w y = true) →
        s.yardFrame src w = (mappedRoles s.map).foldl (State.examineRole w) { s with yardIx := some (w, s.now) })
      ∧ ∀ r,
        let a := s.role r
        ((a.openWin ≠ none ∨ ∃ h t, a.handed = some (h, t) ∧ (h = w - 1 ∨ ahead h (w - 1) = true)) →
          State.examineRole w s r = s)
        ∧ (a.openWin = none → (∀ h t, a.handed = some (h, t) → h ≠ w - 1 ∧ ahead h (w - 1) = false) →
          State.examineRole w s r = (match s.chooseServing r with
            | .none => s.handOver r ⟨w - 1, .none, false, false, false, List.replicate 32 none⟩
            | b => { s with
                roles := s.roles.set (roleIx r)
                  { a with openWin := some ⟨w - 1, b, List.replicate 32 none, false, false⟩ } })))
  ∧ ∀ (s : State) (r : Role) (c : ClosedWindow),
    let t := s.captureTake r c
    let filled : Piece :=
      ⟨true, c.by_, c.complete, c.clipped, c.questionable, c.pos.map fun x => x.getD (-32768)⟩
    let front := s.cap.store.getLast?
    let takes := s.cap.status ≠ .held ∧ ∃ ch ∈ s.channels, ch.role = r
    let joins := front = none ∨ ∃ x, front = some x ∧ ahead c.w x.w = true
    let completed (store : List CaptureWindow) (w : WindowIx) : Prop :=
      s.cap.status = .recording ∧ store.length = 16 ∧ ∃ x, store.getLast? = some x ∧ x.w = w ∧ ∀ p ∈ x.pieces, p.received = true
    let becomes (store : List CaptureWindow) (done : Prop) : Prop :=
      let kept : CaptureState := { s.cap with taken := some s.now, store := store }
      let held : CaptureState := { kept with status := .held, cutShort := false }
      (¬ done → t = { s with cap := kept })
      ∧ (done → t.cap = held ∧ onlyNoticed { s with cap := held } t
        ∧ ∀ h, s.cap.header = some h → t = State.notice { s with cap := held } (.captureReady h store.length false))
    (¬ takes → t = s)
    ∧ (takes → joins → s.cap.status = .recording → 16 ≤ s.cap.store.length → becomes s.cap.store True)
    ∧ (takes → joins → (s.cap.status = .recording → s.cap.store.length < 16) →
        let store := s.cap.store ++ [⟨c.w, s.channels.map fun ch => if ch.role = r then filled else unfilledPiece⟩]
        (s.cap.status = .recording → becomes store (completed store c.w))
        ∧ (s.cap.status ≠ .recording → becomes (store.drop (store.length - (s.cap.preCount + 1))) False))
    ∧ (takes → ¬ joins → (∃ x ∈ s.cap.store, x.w = c.w) →
        let store := s.cap.store.map fun x => if x.w = c.w then
          { x with pieces := (s.channels.zip x.pieces).map fun p => if p.1.role = r then filled else p.2 } else x
        becomes store (completed store c.w))
    ∧ (takes → ¬ joins → (∀ x ∈ s.cap.store, x.w ≠ c.w) → becomes s.cap.store False)
    ∧ unfilledPiece.received = false ∧ unfilledPiece.samples = List.replicate 32 (-32768)

/-- A slot value is scaled by gain / 4096, rounded toward minus infinity, saturated to 16 bits, and marked clipped exactly
when saturation changes it (R34). An entry gets no sample of a frame exactly when the frame is INVALID or the entry's slot is
at or above the frame's slot count; the other entries of the frame are not affected (R32). -/
def Obligations.ScalingFloorsAndSaturates : Prop :=
  (∀ (e : MapEntry) (f : SampleFrame),
    entrySample e f = none ↔ f.quality = .invalid ∨ f.values.length ≤ e.slot.val)
  ∧ ∀ (e : MapEntry) (f : SampleFrame) (raw : Int), f.quality ≠ .invalid → f.values[e.slot.val]? = some raw →
    ∃ x clip, entrySample e f = some (x, clip) ∧ -32768 ≤ x ∧ x ≤ 32767
      ∧ (∀ q : Int, q * 4096 ≤ raw * e.gain.toNat → raw * e.gain.toNat < (q + 1) * 4096 →
          x = max (-32768) (min 32767 q) ∧ (clip = true ↔ q < -32768 ∨ 32767 < q))

/-- A window index is ahead of another exactly when the first minus the second, modulo 2048, is 1 to 1023 (R35). -/
def Obligations.AheadIsADifferenceOf1To1023 : Prop :=
  ∀ a b : WindowIx, ahead a b = true ↔ 1 ≤ (a.toNat + 2048 - b.toNat) % 2048 ∧ (a.toNat + 2048 - b.toNat) % 2048 ≤ 1023

/-- CLEAR MAP: refused MODE outside CONFIG; in CONFIG the map, the source table, every assembly buffer and result slot, the
yard window index and the frequency history with its count since the newest crossing are cleared, the "map overflow"
counter is not, and the reply is DONE (R22, R53, R56, R57). A map without a capture channel leaves capture as it is; one with
a capture channel acts on it by its state: the store emptied when DISARMED or ARMED, the latter becoming DISARMED, a
recording cut short, a held record kept (R22, R174; a recording without a window becomes DISARMED, one with 16 windows is
held with 16, log entry 44). A raised phase alarm of a bus role stands, its role unmapped (log entry 49). -/
def Obligations.ClearMapEmptiesIntake : Prop :=
  ∀ (s : State) (rq : Requester), s.executes →
    (s.mode ≠ .config → exec (.clearMap rq) s = .next (s.reply rq 0x20 false (refused .mode)))
    ∧ (s.mode = .config → ∃ t : State, exec (.clearMap rq) s = .next (t.reply rq 0x20 false (doneWith []))
        ∧ t.map = [] ∧ t.sources = [] ∧ (∀ r, t.role r = resetRole) ∧ t.yardIx = none
        ∧ t.tracker.crossings = [] ∧ t.tracker.last = none ∧ t.tracker.freq = none
        ∧ onlyNoticed { s with
            map := t.map, sources := t.sources, roles := t.roles, yardIx := t.yardIx, tracker := t.tracker, cap := t.cap } t
        ∧ let u : State := { s with
            map := [], sources := [], roles := Vector.replicate 51 resetRole, yardIx := none
            tracker := { s.tracker with crossings := [], last := none, since := 0, freq := none } }
          ((∀ e ∈ s.map, e.capture = false ∨ e.role = none) → t = u)
          ∧ ((∃ e ∈ s.map, e.capture = true ∧ e.role ≠ none) → CaptureEdited u t))

/-- The completion of APPEND MAP on a well-formed single entry: appended with its fields, its source known, DONE, or
CLAMPED with the capture flag cleared for FORWARD_ONLY or beyond eight flags (R21, R23, R25). An entry stored without its
flag changes nothing of capture, one stored with it acts on capture by its state (R174; log entry 44). -/
def Obligations.AppendMapStoresOneEntry : Prop :=
  ∀ (s : State) (rq : Requester) (w : MapEntryWrite) (role : Option Role), s.executes → s.mode = .config →
    s.map.length < 64 → s.sources.length < 8 → w.source ≠ 0 → w.source ≠ 255 → (h : w.slot.toNat < 16) →
    roleOfCode w.role = some role → (∀ r, role = some r → (entriesOf s.map r).length < 2) →
    (∀ e ∈ s.map, ¬ (e.source = w.source ∧ e.slot = ⟨w.slot.toNat, h⟩)) →
    let kept := w.capture && role.isSome && decide ((s.map.filter (·.capture)).length < 8)
    ∃ t : State, exec (.appendMap rq [w]) s = .next (t.reply rq 0x21 false
        (carried (w.capture && (role.isNone || decide (8 ≤ (s.map.filter (·.capture)).length))) []))
      ∧ t.map = s.map ++ [⟨w.source, ⟨w.slot.toNat, h⟩, role, w.gain,
          w.capture && role.isSome && decide ((s.map.filter (·.capture)).length < 8)⟩]
      ∧ t.sources = (if w.source ∈ s.sources.map (·.addr) then s.sources
          else s.sources ++ [⟨w.source, .new, none, s.now, 0, none, 0⟩])
      ∧ (kept = false → t = { s with map := t.map, sources := t.sources })
      ∧ (kept = true → CaptureEdited { s with map := t.map, sources := t.sources } t)

/-! ### Chapter 3: window computation -/

/-- isqrt is the largest integer whose square does not exceed its argument, for every argument the specification's widths
allow (section 5.4 of the scope file), and the RMS value of 32 samples follows the four steps of R45, 0 to 4000 pm, for
every role. -/
def Obligations.RmsInFourSteps : Prop :=
  (∀ n : Nat, n < 2 ^ 64 → isqrt n * isqrt n ≤ n ∧ n < (isqrt n + 1) * (isqrt n + 1))
  ∧ (∀ xs : List Int, xs.length = 32 → (∀ x ∈ xs, -32768 ≤ x ∧ x ≤ 32767) →
      ∃ total root : Nat, total = (xs.map fun x => (x * x).toNat).sum ∧ total ≤ 2 ^ 35
        ∧ root * root ≤ total / 32 ∧ total / 32 < (root + 1) * (root + 1) ∧ root ≤ 32768
        ∧ rmsPm xs = (root * 1000 + 4096) / 8192 ∧ rmsPm xs ≤ 4000
        ∧ (root = 0 → rmsPm xs = 0) ∧ (root = 32768 → rmsPm xs = 4000)
        ∧ ∀ (orders : List Nat) (r : Role), (slotValues orders r xs).rms = rmsPm xs)

/-- The values of a window of samples: the coefficients of R46, the scaled correlations, the phasor and the magnitude M_h of
R47, the fundamental value, and, except for a NEUTRAL_I role, a magnitude for each order of the table; from a fundamental of
256 peak counts upward the per-order values and, with an order in the list, the THD, each within 2000 pm, and below it
neither (R46, R47, R48, R49, R50, R51). -/
def Obligations.HarmonicAvailability : Prop :=
  ∀ (orders : List Nat) (r : Role) (xs : List Int),
    let v := slotValues orders r xs
    let c : List Int := [16384, 16069, 15137, 13623, 11585, 9102, 6270, 3196, 0, -3196, -6270, -9102, -11585, -13623, -15137,
      -16069, -16384, -16069, -15137, -13623, -11585, -9102, -6270, -3196, 0, 3196, 6270, 9102, 11585, 13623, 15137, 16069]
    let re (h : Nat) : Int := (xs.zipIdx.map fun x => x.1 * c.getD (h * x.2 % 32) 0).sum / 16384
    let im (h : Nat) : Int := (xs.zipIdx.map fun x => x.1 * -(c.getD ((h * x.2 + 24) % 32) 0)).sum / 16384
    let mag (h : Nat) : Nat := isqrt (re h * re h + im h * im h).toNat / 16
    (v.re = re 1 / 16 ∧ v.im = im 1 / 16 ∧ v.m1 = mag 1 ∧ v.fund = mag 1 * 1000 / 11585)
    ∧ (∀ h, v.harm = some h → h.orders = orders.map (fun k => (k, mag k))
        ∧ h.values = (if 256 ≤ mag 1 then some (orders.map fun k => min 2000 (mag k * 1000 / mag 1)) else none)
        ∧ h.thd = (if 256 ≤ mag 1 ∧ orders ≠ [] then
            some (min 2000 (isqrt (orders.map fun k => mag k * mag k).sum * 1000 / mag 1)) else none))
    ∧ (∀ k, r = .neutralI k → v.harm = none)
    ∧ ((∀ k, r ≠ .neutralI k) → ∃ h, v.harm = some h ∧ h.orders.map (·.1) = orders
        ∧ (h.values.isSome = true ↔ 256 ≤ v.m1)
        ∧ (h.thd.isSome = true ↔ 256 ≤ v.m1 ∧ orders ≠ [])
        ∧ (∀ vs, h.values = some vs → vs.length = orders.length ∧ ∀ x ∈ vs, x ≤ 2000)
        ∧ (∀ x, h.thd = some x → x ≤ 2000))

/-- At a handover the role's NEWEST slot moves to PREVIOUS and NEWEST takes the window's result with its marks; the last
handed-over window is the window, taken now; no other role's buffers or slots change (R41, R44, R57). The values are those of
the samples, a missing one counting 0, for the orders of the table as it stands; a BUS_VA window is first taken by the
frequency tracker and carries its frequency (R44, R48, R54). Then capture takes the window in, and the elements that
need the role see it (these two and their order are log entries 11 and 12; R59, R165). -/
def Obligations.HandoverPublishes : Prop :=
  ∀ (s : State) (r : Role) (c : ClosedWindow),
    let t := s.handOver r c
    (∃ x, (t.role r).newest = some x ∧ x.w = c.w ∧ x.by_ = c.by_ ∧ x.complete = c.complete ∧ x.clipped = c.clipped
        ∧ x.questionable = c.questionable ∧ (x.vals = none ↔ c.by_ = .none))
    ∧ (t.role r).previous = (s.role r).newest ∧ (t.role r).handed = some (c.w, s.now)
    ∧ (t.role r).openWin = (s.role r).openWin ∧ (∀ q, q ≠ r → t.role q = s.role q) ∧ onlyEvaluated s t
    ∧ let tracker := if r = .busV .A then s.tracker.take (if s.link.nominal = .hz60 then 60000 else 50000) c else s.tracker
      let x : ResultSlot := {
        w := c.w, by_ := c.by_, complete := c.complete, clipped := c.clipped, questionable := c.questionable
        vals := if c.by_ = .none then none
          else some (slotValues (s.table.orders.map (·.1)) r (c.pos.map fun y => y.getD 0))
        freq := if r = .busV .A then tracker.freq else none }
      let u : State := { s with
        tracker := tracker
        roles := s.roles.set (roleIx r) { s.role r with
          handed := some (c.w, s.now), newest := some x, previous := (s.role r).newest } }
      t = ((u.captureTake r c).elementsOf r).foldl (State.elementSees c.w) (u.captureTake r c)

/-- In CONFIG no element evaluates: a publication leaves every element's state as it stands. Otherwise the first result
published while an element has no window sets its candidate, and the element tests it (at most 2048 times, log entry 23): it
evaluates the candidate when every role it needs has a result for it, or one of them has a result for a window ahead of it,
and waits otherwise; the slots count as they stand, results from before the element's start included (log entry 46). An
element that evaluates a window, by its own chapter's function, has it as last evaluated and the next as candidate, so each
window is evaluated once, in order. The needed roles are those of Table 3-2, voltage control's by the phase selection; a
publication for a role is seen by the elements that need it (R58, R59). -/
def Obligations.EvaluationTakesEachWindowOnce : Prop :=
  (∀ (s : State) (w : WindowIx) (e : Element),
      (s.mode = .config → State.elementSees w s e = s)
      ∧ (s.mode ≠ .config → State.elementSees w s e = State.evaluateFrom 2048 e
          (if (s.eval e).last = none ∧ (s.eval e).cand = none then
            { s with evals := s.evals.set (elementIx e) { s.eval e with cand := some w } }
          else s)))
  ∧ (∀ (s : State) (e : Element) (n : Nat), State.evaluateFrom 0 e s = s
      ∧ ((s.eval e).cand = none → State.evaluateFrom n e s = s))
  ∧ (∀ (s : State) (e : Element) (w : WindowIx), s.evaluable e w = true ↔
      (s.needed e ≠ [] ∧ ∀ r ∈ s.needed e, ∃ x, s.slotFor r w = some x)
      ∨ ∃ r ∈ s.needed e, ∃ x, ((s.role r).newest = some x ∨ (s.role r).previous = some x) ∧ ahead x.w w = true)
  ∧ (∀ (s : State) (r : Role) (w : WindowIx),
      (∀ x, s.slotFor r w = some x → x.w = w ∧ ((s.role r).newest = some x ∨ (s.role r).previous = some x))
      ∧ (s.slotFor r w = none → ∀ x, ((s.role r).newest = some x ∨ (s.role r).previous = some x) → x.w ≠ w))
  ∧ (∀ (s : State) (r : Role),
      (r ∈ s.needed .voltage ↔
        (r = .busV .A ∧ s.phases.a = true) ∨ (r = .busV .B ∧ s.phases.b = true) ∨ (r = .busV .C ∧ s.phases.c = true))
      ∧ (∀ k, r ∈ s.needed (.unbalance k) ↔ r = .neutralI k ∨ r = .busV .A)
      ∧ (∀ p, r ∈ s.needed (.busHarmonic p) ↔ r = .busV p)
      ∧ (∀ k, r ∈ s.needed (.stageHarmonic k) ↔ r = .stageI k)
      ∧ ∀ e, e ∈ s.elementsOf r ↔ r ∈ s.needed e)
  ∧ (∀ (s : State) (e : Element) (w : WindowIx) (n : Nat), (s.eval e).cand = some w →
      (s.evaluable e w = false → State.evaluateFrom (n + 1) e s = s)
      ∧ (s.evaluable e w = true →
          let u := s.evaluate e w
          let t : State := { u with evals := u.evals.set (elementIx e) ⟨some w, some (w + 1), some s.now⟩ }
          State.evaluateFrom (n + 1) e s = State.evaluateFrom n e t
          ∧ t.eval e = ⟨some w, some (w + 1), some s.now⟩ ∧ (∀ g, g ≠ e → t.eval g = s.eval g) ∧ onlyEvaluated s t))
  ∧ ∀ (s : State) (w : WindowIx),
      s.evaluate .voltage w = s.voltageEvaluate w
      ∧ (∀ k, s.evaluate (.unbalance k) w = s.unbalanceEvaluate k w)
      ∧ (∀ p, s.evaluate (.busHarmonic p) w = s.busHarmonicEvaluate p w)
      ∧ ∀ k, s.evaluate (.stageHarmonic k) w = s.stageHarmonicEvaluate k w

/-- READ MEASUREMENTS: LENGTH without 1 to 4 codes, INDEX for a code outside the measured roles of Table 2-3 or another
selector, and otherwise DONE with the selected slots and the tracker's state (R62; the layout is log entry 20, its yes and no
fields as flags log entry 54). -/
def Obligations.ReadMeasurementsAnswers : Prop :=
  (∀ (b : Byte) (r : Role), measuredRole b = some r ↔ roleOfCode b = some (some r))
  ∧ ∀ (s : State) (rq : Requester) (selector : Byte) (codes : List Byte), s.executes →
    exec (.readMeasurements rq selector codes) s = .next (
      if codes.length = 0 ∨ 4 < codes.length then s.reply rq 0x02 false (refused .length)
      else if (selector ≠ 0 ∧ selector ≠ 1) ∨ codes.any (fun b => (measuredRole b).isNone) then
        s.reply rq 0x02 false (refused .index)
      else s.reply rq 0x02 false (doneWith
        (packList 12 ((codes.filterMap measuredRole).map (s.measurement (selector == 1))) ++ s.encTracker)))

/-! ### Chapter 4: stage records -/

/-- A change of a stage record touches that record alone, and sends one STAGE_STATE notice exactly when its state, its
unit-silent or its blocked flag changes (R75). -/
def Obligations.StageChangeSendsOneNotice : Prop :=
  ∀ (s : State) (k : StageIx) (f : Stage → Stage),
    let a := s.stage k
    let b := f a
    let u : State := { s with stages := s.stages.set k b }
    s.changeStage k f =
      (if a.state = b.state ∧ a.silent = b.silent ∧ a.blocked = b.blocked then u
      else u.notice (.stageState k a.state b.state b.reported b.blocked b.silent b.lockoutPending b.awaiting))

/-- WRITE STAGE's settings are each brought to the nearest end of its range and kept inside it, the trip level above the
alarm level, the unit address 255 to 254 and 0 to absent, repeated orders stored once (R64). -/
def Obligations.WriteStageClampsItsSettings : Prop :=
  ∀ w : StageWrite,
    let c := clampedStage w
    c.enabled = w.enabled
    ∧ c.rank = min w.rank.toNat 23 ∧ c.effect = max 1 (min w.effect.toNat 200)
    ∧ c.cooldown = max 10 (min w.cooldown.toNat 1200)
    ∧ c.alarmLevel = max 1 (min w.alarmLevel.toNat 500) ∧ c.alarmDelay = max 1 (min w.alarmDelay.toNat 600)
    ∧ c.tripLevel = max (c.alarmLevel + 1) (max 1 (min w.tripLevel.toNat 1000))
    ∧ c.tripDelay = max 1 (min w.tripDelay.toNat 600)
    ∧ c.thdLimit = min w.thdLimit.toNat 1000 ∧ c.thdDelay = max 1 (min w.thdDelay.toNat 600)
    ∧ c.operations = min w.operations.toNat 999999
    ∧ (∀ x, w.compensation = some x → c.comp = some
        (max (-4096) (min x.1.toInt 4095), max (-4096) (min x.2.toInt 4095)))
    ∧ (w.compensation = none → c.comp = none)
    ∧ (w.unit = 0 → c.unit = none) ∧ (w.unit = 255 → c.unit = some 254)
    ∧ (w.unit ≠ 0 → w.unit ≠ 255 → c.unit = some w.unit)
    ∧ c.orders.Nodup ∧ ∀ h, h ∈ c.orders ↔ ∃ b ∈ w.orders, b.toNat = h

/-- The checks of R65 in their order: the first that fails refuses with its reason and the stage index, and the part is left
unchanged; a list of more than 14 orders is refused LENGTH, with the stage index too (R64, R65, R188, remark of Table 11-1;
log entry 20). -/
def Obligations.WriteStageChecksInOrder : Prop :=
  ∀ (s : State) (rq : Requester) (w : StageWrite), s.executes →
    (14 < w.orders.length → ∀ b, exec (.writeStage rq b w) s = .next (s.reply rq 0x11 false (refusedAt .length b)))
    ∧ (w.orders.length ≤ 14 →
      (∀ b : Byte, 23 < b.toNat → exec (.writeStage rq b w) s = .next (s.reply rq 0x11 false (refusedAt .index b)))
      ∧ ∀ (k : StageIx) (b : Byte), b.toNat = k.val →
        let a := s.stage k
        let c := clampedStage w
        let turned (r : Reason) := exec (.writeStage rq b w) s = .next (s.reply rq 0x11 false (refusedAt r b))
        let off := a.cfg.enabled = true ∧ c.enabled = false
        let moved := a.cfg.enabled = true ∧ c.enabled = true ∧ a.cfg.unit ≠ c.unit
        let after := if a.cfg.unit = c.unit then a.reported else none
        if (∃ h ∈ w.orders, h.toNat < 2 ∨ 15 < h.toNat) then turned .index
        else if c.enabled = true ∧ c.unit = none then turned .index
        else if s.mode ≠ .config ∧ (s.hasEntry k = true ∨ a.inFlight ≠ none) then turned .busy
        else if (off ∨ moved) ∧ (a.state = .lockedOut ∨ a.state = .failed ∨ a.lockoutPending = true) then turned .locked
        else if off ∧ a.reported ≠ some .open ∧ a.reported ≠ none then turned .state
        else if moved ∧ (s.mode ≠ .config ∨ (a.reported ≠ some .open ∧ a.reported ≠ none)) then turned .state
        else if a.cfg.enabled = false ∧ c.enabled = true ∧ s.mode ≠ .config ∧ after ≠ some .open ∧ after ≠ some .closed
          then turned .state
        else if c.enabled = true ∧ (∃ j, j ≠ k ∧ (s.stage j).cfg.enabled = true ∧ (s.stage j).cfg.unit = c.unit)
          then turned .duplicate
        else ∃ t : State, exec (.writeStage rq b w) s = .next (t.reply rq 0x11 false (carried (stageBrought w) []))
          ∧ (t.stage k).cfg = c ∧ (∀ j, j ≠ k → t.stage j = s.stage j)
          ∧ onlyNoticed { s with stages := t.stages, inService := t.inService } t)

/-- What a WRITE STAGE that is carried out does to the stage's live state: enabling from the reported position, disabling,
and a change of unit address, which also takes the stage off the in-service list (R66, R69, R77; a cooldown held meanwhile
keeps its length, log entry 37). Disabling clears the three flags; a changed unbalance setting clears the counters of the
element, and its alarm outside a lockout; a changed THD setting the overload counter and flag; a balance capture ends
(R66, R143, R144). -/
def Obligations.WriteStageActsOnLiveState : Prop :=
  (∀ (now : PartTime) (c : StageSettings) (a : Stage),
    let b := writtenStage now c a
    b.cfg = c ∧ b.blocked = a.blocked ∧ b.inFlight = a.inFlight
    ∧ (a.cfg.unit ≠ c.unit → b.reported = none ∧ b.stable = none ∧ b.arrival = none ∧ b.moving = none)
    ∧ (a.cfg.unit = c.unit → b.reported = a.reported ∧ b.stable = a.stable ∧ b.arrival = a.arrival)
    ∧ (a.cfg.enabled = false → c.enabled = true → b.silenceFrom = now
        ∧ (b.reported = some .open → b.state = .openCooling ∧ b.cooling = c.cooldown * 1000)
        ∧ (b.reported = some .closed → b.state = .closed)
        ∧ (b.reported = some .unknown → b.state = .failed)
        ∧ (b.reported = some .moving ∨ b.reported = none →
            b.state = .openCooling ∧ b.awaiting = true ∧ b.cooling = c.cooldown * 1000))
    ∧ (a.cfg.enabled = true → c.enabled = false → b.state = .absent ∧ b.cooling = 0 ∧ b.awaiting = false
        ∧ b.silent = false ∧ b.closedInCooldown = false ∧ b.moving = none)
    ∧ (a.cfg.enabled = true → c.enabled = true → a.cfg.unit ≠ c.unit →
        b.state = .openCooling ∧ b.awaiting = true ∧ b.silenceFrom = now)
    ∧ (a.cfg.enabled = c.enabled → a.cfg.unit = c.unit → b = { a with cfg := c }))
  ∧ ∀ (s : State) (rq : Requester) (k : StageIx) (b : Byte) (w : StageWrite), s.executes → b.toNat = k.val →
    w.orders.length ≤ 14 → s.writeStageCheck k (clampedStage w) = none →
    ∃ t : State, exec (.writeStage rq b w) s = .next (t.reply rq 0x11 false (carried (stageBrought w) []))
      ∧ let c := clampedStage w
        let a := s.stage k
        let x := writtenStage s.now c a
        let off := a.cfg.enabled && !c.enabled
        let levels := decide (a.cfg.alarmLevel ≠ c.alarmLevel ∨ a.cfg.alarmDelay ≠ c.alarmDelay
          ∨ a.cfg.tripLevel ≠ c.tripLevel ∨ a.cfg.tripDelay ≠ c.tripDelay)
        let thd := decide (a.cfg.thdLimit ≠ c.thdLimit ∨ a.cfg.thdDelay ≠ c.thdDelay)
        t.stage k = { x with
          unbalanceAlarm := a.unbalanceAlarm && !off && (!levels || x.state == .lockedOut || x.lockoutPending)
          overload := a.overload && !off && !thd
          bar := a.bar && !off
          barCount := if off && a.bar then 0 else a.barCount
          overCount := if thd then 0 else a.overCount
          unb := { a.unb with
            alarmCount := if levels then 0 else a.unb.alarmCount
            tripCount := if levels then 0 else a.unb.tripCount
            capture := none } }
        ∧ t.inService = (if a.cfg.unit = c.unit then s.inService else s.inService.erase k)

/-- BLOCK sets and UNBLOCK clears the blocked flag of any stage in any mode, with a STAGE_STATE notice when it changes, and
are refused INDEX above 23 (R81). That DONE carries no ALREADY mark when the flag already had the value is the model's choice
(log entry 53). -/
def Obligations.BlockAndUnblock : Prop :=
  ∀ (s : State) (rq : Requester), s.executes →
    (∀ b : Byte, 23 < b.toNat →
      exec (.block rq b) s = .next (s.reply rq 0x12 false (refused .index))
      ∧ exec (.unblock rq b) s = .next (s.reply rq 0x13 false (refused .index)))
    ∧ ∀ (k : StageIx) (b : Byte), b.toNat = k.val →
      let a := s.stage k
      let with_ (v : Bool) : State :=
        if a.blocked = v then s
        else State.notice { s with stages := s.stages.set k { a with blocked := v } }
          (.stageState k a.state a.state a.reported v a.silent a.lockoutPending a.awaiting)
      exec (.block rq b) s = .next ((with_ true).reply rq 0x12 false (doneWith []))
      ∧ exec (.unblock rq b) s = .next ((with_ false).reply rq 0x13 false (doneWith []))

/-- RELEASE: the refusals of R82 and R83 in their order, and the record a RELEASE that is carried out leaves: closed in
cooldown cleared, the moving timer stopped, the three flags cleared and a balance capture ended, no other record touched;
into OPEN_READY a selection follows (R82, R83, R93, R143). -/
def Obligations.ReleaseByState : Prop :=
  (∀ (s : State) (rq : Requester), s.executes →
    (∀ b : Byte, 23 < b.toNat → exec (.release rq b) s = .next (s.reply rq 0x14 false (refused .index)))
    ∧ ∀ (k : StageIx) (b : Byte), b.toNat = k.val →
      let a := s.stage k
      let turned (r : Reason) := exec (.release rq b) s = .next (s.reply rq 0x14 false (refused r))
      if a.state ≠ .lockedOut ∧ a.state ≠ .failed then turned .state
      else if a.state = .lockedOut ∧ a.reported ≠ some .open then turned .state
      else if a.state = .failed ∧ (s.hasEntry k = true ∨ a.inFlight ≠ none) then turned .state
      else if a.state = .failed ∧ a.reported = some .closed ∧ a.lockoutPending = true then turned .locked
      else if a.state = .failed ∧ a.reported ≠ some .open ∧ a.reported ≠ some .closed then turned .state
      else ∃ u : State,
        exec (.release rq b) s = .next (State.reply
          (if a.state = .lockedOut ∧ a.cooling = 0 then u.selection else u) rq 0x14 false (doneWith []))
        ∧ u.stage k = { releasedStage a with
            unbalanceAlarm := false
            overload := false
            bar := false
            barCount := if a.bar then 0 else a.barCount
            unb := { a.unb with capture := none } }
        ∧ (∀ j, j ≠ k → u.stage j = s.stage j) ∧ onlyNoticed { s with stages := u.stages } u)
  ∧ ∀ a : Stage,
    let b := releasedStage a
    b = { a with
      closedInCooldown := false, moving := none, state := b.state, cooling := b.cooling, lockoutPending := b.lockoutPending }
    ∧ (a.state = .lockedOut → b.lockoutPending = a.lockoutPending ∧ b.cooling = a.cooling
        ∧ (a.cooling = 0 → b.state = .openReady) ∧ (a.cooling ≠ 0 → b.state = .openCooling))
    ∧ (a.state = .failed → a.reported = some .open → b.cooling = a.cfg.cooldown * 1000 ∧ b.lockoutPending = false
        ∧ (a.lockoutPending = false → b.state = .openCooling) ∧ (a.lockoutPending = true → b.state = .lockedOut))
    ∧ (a.state = .failed → a.reported = some .closed →
        b.state = .closed ∧ b.cooling = 0 ∧ b.lockoutPending = a.lockoutPending)

/-- A POSITION frame: malformed unless it has three bytes with a position of Table 5-1 and a tag result of 0 to 2, and then
counted alone; otherwise each record of its unit handles it, in ascending stage index (log entry 10), and none where no
record has the unit. A record notes the report and its arrival and moves in or off the in-service list; one that is not
enabled does nothing else (R67, R68; the frame of an unknown unit that is malformed is log entry 29). A report for an enabled
stage with nothing in flight, awaiting nothing: an opening completes a lockout or starts the cooldown, a closing makes
OPEN_READY and OPEN_COOLING stages CLOSED (marked in the cooldown), UNKNOWN fails the stage; other records keep their state
(R70, R71, R72, R77; LOCKED_OUT and UNKNOWN: log entry 41). A stage awaiting its position takes it from OPEN or CLOSED; one in
LOCKED_OUT closed in CONFIG is FAILED, otherwise CLOSED with a PROTECT OPEN submitted; the full cooldown starts where the
stable position turns from CLOSED to OPEN. The whole record is stated, with its notices, the test of the queued entry, and
last what leaving CLOSED does: the element's counters, last U, low-voltage block, balance capture and overload cleared, and
the alarm outside a lockout (R69, R70, R71, R73, R77, R92, R128, R143, R152, R159; its order is log entry 14). -/
def Obligations.IdleReportsChangeState : Prop :=
  (∀ (s : State) (k : StageIx) (r : PositionReport), (s.stage k).cfg.enabled = true → (s.stage k).inFlight = none →
      (s.stage k).awaiting = false →
      let a := s.stage k
      let t := State.positionRecord r s k
      (∀ j, j ≠ k → a.state ≠ .lockedOut → t.stage j = s.stage j)
      ∧ (r.pos = .open → a.state = .closed → a.lockoutPending = false →
          (t.stage k).state = .openCooling ∧ (t.stage k).cooling = a.cfg.cooldown * 1000)
      ∧ (r.pos = .open → a.state = .closed → a.lockoutPending = true →
          (t.stage k).state = .lockedOut ∧ (t.stage k).lockoutPending = false
          ∧ (t.stage k).cooling = a.cfg.cooldown * 1000)
      ∧ (r.pos = .closed → a.state = .openReady →
          (t.stage k).state = .closed ∧ (t.stage k).cooling = 0 ∧ (t.stage k).closedInCooldown = a.closedInCooldown)
      ∧ (r.pos = .closed → a.state = .openCooling →
          (t.stage k).state = .closed ∧ (t.stage k).cooling = 0 ∧ (t.stage k).closedInCooldown = true)
      ∧ (r.pos = .unknown → a.state ≠ .absent → (t.stage k).state = .failed)
      ∧ (r.pos = .moving → (t.stage k).state = a.state
          ∧ (a.moving = none → a.state ≠ .failed → (t.stage k).moving = some ⟨s.now,
              match a.stable with
              | some .open => s.link.closeTimeout
              | some .closed => s.link.openTimeout
              | _ => max s.link.closeTimeout s.link.openTimeout⟩))
      ∧ (t.stage k).reported = some r.pos ∧ (t.stage k).arrival = some s.now ∧ (t.stage k).silent = false
      ∧ onlySwitched { s with inService := t.inService } t)
  ∧ (∀ (s : State) (k : StageIx) (r : PositionReport), (s.stage k).cfg.enabled = true → (s.stage k).inFlight = none →
    let a := s.stage k
    let t := State.positionRecord r s k
    let full := a.cfg.cooldown * 1000
    let turned : Prop := a.stable = some .closed ∧ r.pos = .open
    let seen : Stage := { a with
      reported := some r.pos, arrival := some s.now, silenceFrom := s.now, silent := false
      stable := if r.pos = .open ∨ r.pos = .closed then some r.pos else a.stable
      cooling := if turned then full else a.cooling
      moving := if r.pos ≠ .moving then none
        else if a.moving = none ∧ a.state ≠ .failed then some ⟨s.now, match a.stable with
          | some .open => s.link.closeTimeout
          | some .closed => s.link.openTimeout
          | _ => max s.link.closeTimeout s.link.openTimeout⟩
        else a.moving }
    let uncool : Stage := { seen with closedInCooldown := if turned then false else a.closedInCooldown }
    let opened (x : Stage) : Stage := { x with
      state := if a.lockoutPending then .lockedOut else .openCooling, cooling := full, lockoutPending := false }
    let closed : Stage := { seen with state := .closed, cooling := 0 }
    let b : Stage := match r.pos with
      | .open => if a.awaiting then { seen with state := .openCooling, cooling := full, awaiting := false }
        else if a.state = .closed then opened uncool else uncool
      | .closed => if a.awaiting then { closed with awaiting := false }
        else match a.state with
          | .openReady => closed
          | .openCooling => { closed with closedInCooldown := true }
          | .lockedOut => { closed with
              state := if s.mode = .config then .failed else .closed
              lockoutPending := true, closedInCooldown := if 0 < a.cooling then true else a.closedInCooldown }
          | _ => seen
      | .moving => seen
      | .unknown => if a.state = .absent ∨ a.state = .failed then seen
        else { seen with state := .failed, awaiting := false, lockoutPending := a.state == .lockedOut || a.lockoutPending }
    let reopened : Prop := r.pos = .closed ∧ a.awaiting = false ∧ a.state = .lockedOut ∧ s.mode ≠ .config
    let cooled : Prop := r.pos = .closed ∧ a.awaiting = false
      ∧ (a.state = .openCooling ∨ (a.state = .lockedOut ∧ 0 < a.cooling))
    let left : Prop := a.reported = some .closed ∧ r.pos ≠ .closed
    let one := State.changeStage { s with inService := t.inService } k fun _ => b
    let two := if reopened then (one.gather k .open .protect .unbalanceTrip).1 else one
    let three := (if cooled then two.notice (.closedInCooldown k a.cooling) else two).testSatisfied k
    t = (if left then three.leftClosed k else three) ∧ (¬ reopened → three.stage k = b))
  ∧ (∀ (s : State) (k : StageIx),
      let a := s.stage k
      let kept : Prop := a.state = .lockedOut ∨ a.lockoutPending = true
      let one : State := { s with stages := s.stages.set k { a with
        unbalanceAlarm := a.unbalanceAlarm && (a.state == .lockedOut || a.lockoutPending)
        overload := false, overCount := 0, unb := ⟨none, false, 0, 0, none⟩ } }
      let two := if a.unbalanceAlarm = true ∧ ¬ kept then
        one.notice (.unbalanceAlarm k false (some .leftClosed) none none) else one
      let three := match a.unb.capture with
        | some x => two.notice (.balanceAbandoned k .leftClosed x.count)
        | none => two
      s.leftClosed k = (if a.overload = true then
        three.notice (.harmonicOverload k .cleared (some .leftClosed) none none none) else three))
  ∧ (∀ (s : State) (src : Byte) (payload : List Byte),
      ((payload.length ≠ 3 ∨ 3 < (byteAt payload 0).toNat ∨ 2 < (byteAt payload 2).toNat) →
        s.positionFrame src payload = { s with malformedPositions := bump s.malformedPositions })
      ∧ ((∀ k, (s.stage k).cfg.unit ≠ some src) → payload.length = 3 → (byteAt payload 0).toNat ≤ 3 →
        (byteAt payload 2).toNat ≤ 2 → s.positionFrame src payload = s)
      ∧ ∀ pos res, payload.length = 3 → byteAt payload 0 = BitVec.ofNat 8 (positionCode pos) →
        byteAt payload 2 = (match res with | TagResult.none => 0 | .accepted => 1 | .refused => 2) →
        s.positionFrame src payload = (allStages.filter fun k => (s.stage k).cfg.unit = some src).foldl
          (State.positionRecord ⟨pos, byteAt payload 1, res⟩) s)
  ∧ ∀ (s : State) (k : StageIx) (r : PositionReport),
      let a := s.stage k
      (State.positionRecord r s k).inService =
        (if r.pos = .closed ∧ a.reported ≠ some .closed then s.inService ++ [k]
        else if r.pos ≠ .closed ∧ a.reported = some .closed then s.inService.erase k else s.inService)
      ∧ (a.cfg.enabled = false → State.positionRecord r s k = { s with
          inService := (State.positionRecord r s k).inService
          stages := s.stages.set k { a with
            reported := some r.pos, arrival := some s.now, silenceFrom := s.now
            stable := if r.pos = .open ∨ r.pos = .closed then some r.pos else a.stable } })

/-- The timers of a stage: a moving timer at its limit fails the stage and is stopped (out of LOCKED_OUT with lockout
pending, log entry 41), position silence sets the unit-silent flag, a cooldown run out makes the stage OPEN_READY and brings
a selection (R73, R76, R78, R93). An expiry acts at or beyond its span, and one that is not due changes nothing (log entry
8). -/
def Obligations.StageTimersActWhenDue : Prop :=
  ∀ (s : State) (k : StageIx), s.held = false →
    let a := s.stage k
    (∀ m, a.moving = some m → a.cfg.enabled = true → m.limit ≤ (s.now - m.start).toNat →
      ∃ t : State, exec (.movingTimerExpiry k) s = .next t
        ∧ t.stage k = { a with
            state := .failed, moving := none, awaiting := false
            lockoutPending := a.state == .lockedOut || a.lockoutPending }
        ∧ (∀ j, j ≠ k → t.stage j = s.stage j) ∧ onlyNoticed { s with stages := t.stages } t)
    ∧ ((∀ m, a.moving = some m → a.cfg.enabled = false ∨ (s.now - m.start).toNat < m.limit) →
        exec (.movingTimerExpiry k) s = .next s)
    ∧ (a.cfg.enabled = true → a.silent = false → s.link.silence ≤ (s.now - a.silenceFrom).toNat →
        ∃ t : State, exec (.unitSilence k) s = .next t ∧ t.stage k = { a with silent := true }
          ∧ (∀ j, j ≠ k → t.stage j = s.stage j) ∧ onlyNoticed { s with stages := t.stages } t)
    ∧ ((a.cfg.enabled = false ∨ a.silent = true ∨ (s.now - a.silenceFrom).toNat < s.link.silence) →
        exec (.unitSilence k) s = .next s)
    ∧ (a.cfg.enabled = true → a.state = .openCooling → a.awaiting = false → a.cooling = 0 →
        ∃ u t : State, exec (.cooldownExpiry k) s = .next t ∧ t = u.selection
          ∧ u.stage k = { a with state := .openReady } ∧ (∀ j, j ≠ k → u.stage j = s.stage j)
          ∧ onlyNoticed { s with stages := u.stages } u ∧ onlySwitched s t)
    ∧ ((a.cfg.enabled = false ∨ a.state ≠ .openCooling ∨ a.awaiting = true ∨ a.cooling ≠ 0) →
        exec (.cooldownExpiry k) s = .next s)

/-! ### Chapter 5: the command queue and the switching supervisor -/

/-- Gathering by its table: nothing in CONFIG; a repeated operation merged into the standing entry, with a selection when its
class rises; a CLOSE turned away by a PROTECT OPEN or by a stage that may not close; an opposite entry superseded; and
without an entry, already there or queued with a selection (R88, R89, R90, R91; the selections R93, made at once inside
gathering, log entry 13). -/
def Obligations.GatheringByItsTable : Prop :=
  ∀ (s : State) (k : StageIx) (op : Operation) (cls : CmdClass) (org : Origin),
    let a := s.stage k
    let barred := op = .close ∧ (a.state = .lockedOut ∨ a.state = .failed ∨ a.lockoutPending = true)
    let reached : Prop :=
      match a.inFlight with
      | some f => f.op = op
      | none => (op = .open ∧ a.reported = some .open) ∨ (op = .close ∧ a.reported = some .closed)
    let fresh (u : State) : Prop :=
      (a.state = .absent ∨ barred → s.gather k op cls org = (u, .notQueued))
      ∧ (a.state ≠ .absent → ¬ barred → reached → s.gather k op cls org = (u, .already))
      ∧ (a.state ≠ .absent → ¬ barred → ¬ reached → s.gather k op cls org
        = (State.selection { u with queue := u.queue ++ [⟨k, op, cls, org, s.now⟩] }, .queued))
    (s.mode = .config → s.gather k op cls org = (s, .notQueued))
    ∧ (s.mode ≠ .config → s.entryOf k = none → fresh s)
    ∧ ∀ e, s.mode ≠ .config → s.entryOf k = some e →
      (e.op = op → barred → s.gather k op cls org = (s, .notQueued))
      ∧ (e.op = op → ¬ barred →
          let merged : State := { s with queue := s.queue.map fun x =>
            if x.stage = k then { x with
              cls := if x.cls = .normal ∧ cls = .normal then .normal else .protect
              origin := if x.cls = .normal ∧ cls = .protect then org else x.origin } else x }
          s.gather k op cls org = (if e.cls = .normal ∧ cls = .protect then merged.selection else merged, .merged))
      ∧ (e.op = .open → op = .close → e.cls = .protect → s.gather k op cls org = (s, .notQueued))
      ∧ (e.op ≠ op → ¬ (op = .close ∧ e.cls = .protect) →
          fresh (State.notice { s with queue := s.queue.filter fun x => x.stage ≠ k } (.commandDropped e .superseded none)))

/-- A selection sends, one after another, the oldest PROTECT entry whose stage has no operation in flight, else the oldest
NORMAL entry that may go, an OPEN or a CLOSE of a stage ready to close that close pacing lets go (R93, R94). A NORMAL CLOSE
it reaches whose stage is not ready leaves the queue with a COMMAND_DROPPED notice, reason NOT_READY, and the selection goes
on (R93). It runs until nothing can be sent: afterwards the down insert queue is full, or every entry left without an
operation in flight is a NORMAL CLOSE of a stage ready to close that close pacing holds back. Sending gives the stage its
in-flight record with the next tag and its deadline, puts it in CLOSING or OPENING, stops its moving timer, counts the
operation (out of LOCKED_OUT the lockout stays pending, log entry 41), takes the entry out of the queue, and forms the
COMMAND frame of Table 5-2 (R95, R7, R13). -/
def Obligations.SelectionRunsOut : Prop :=
  (∀ s : State, s.mode ≠ .config →
      let t := s.selection
      onlySwitched s t ∧ t.queue.Sublist s.queue
      ∧ (8 ≤ t.portF.ins.length ∨
        ∀ e ∈ t.queue, (t.stage e.stage).inFlight = none →
          e.cls = .normal ∧ e.op = .close ∧ (t.stage e.stage).state = .openReady
          ∧ (t.stage e.stage).lockoutPending = false
          ∧ (t.link.closeLimit ≤ t.closeFlights
            ∨ ∃ c, t.lastClose = some c ∧ (t.now - c).toNat < t.link.closeGap)))
  ∧ (∀ (s : State) (before after : List QueueEntry) (e : QueueEntry), s.mode ≠ .config → s.portF.ins.length < 8 →
      s.queue = before ++ e :: after → (s.stage e.stage).inFlight = none →
      let free (x : QueueEntry) : Prop := (s.stage x.stage).inFlight = none
      let ready (x : QueueEntry) : Prop :=
        (s.stage x.stage).state = .openReady ∧ (s.stage x.stage).lockoutPending = false
      let paced : Prop := s.closeFlights < s.link.closeLimit
        ∧ ∀ t, s.lastClose = some t → s.link.closeGap ≤ (s.now - t).toNat
      (e.cls = .protect → (∀ x ∈ before, ¬ (x.cls = .protect ∧ free x)) → s.selection = (s.sendEntry e).selection)
      ∧ (e.cls = .normal → (∀ x ∈ s.queue, ¬ (x.cls = .protect ∧ free x)) →
        (e.op = .open ∨ (e.op = .close ∧ ready e ∧ paced)) →
        (∀ x ∈ before, free x → x.op = .close ∧ ready x ∧ ¬ paced) → s.selection = (s.sendEntry e).selection)
      ∧ (s.queue.Pairwise (fun x y => x.stage ≠ y.stage) → e.cls = .normal → (∀ x ∈ s.queue, ¬ (x.cls = .protect ∧ free x)) →
        e.op = .close → ¬ ready e → (∀ x ∈ before, free x → x.op = .close ∧ ready x ∧ ¬ paced) →
        s.selection = (s.dropEntry e .notReady).selection))
  ∧ (∀ (s : State) (e : QueueEntry) (r : DropReason),
      s.dropEntry e r = State.notice { s with queue := s.queue.filter fun x => x.stage ≠ e.stage }
        (.commandDropped e r (if r = .notReady then some (s.stage e.stage).state else none)))
  ∧ ∀ (s : State) (e : QueueEntry),
      let a := s.stage e.stage
      let t := s.sendEntry e
      t.stage e.stage = { a with
        inFlight := some ⟨e.op, s.tag, e.cls, e.origin, s.now,
          s.now + BitVec.ofNat 32 (if e.op = .close then s.link.closeTimeout else s.link.openTimeout)⟩
        state := if e.op = .close then .closing else .opening
        moving := none
        awaiting := false
        lockoutPending := a.state == .lockedOut || a.lockoutPending
        cfg := { a.cfg with operations := min 999999 (a.cfg.operations + 1) } }
      ∧ (∀ j, j ≠ e.stage → t.stage j = s.stage j)
      ∧ t.queue = s.queue.filter (fun x => x.stage ≠ e.stage)
      ∧ t.tag = (if s.tag = 255 then 1 else s.tag + 1)
      ∧ t.lastClose = (if e.op = .close then some s.now else s.lastClose)
      ∧ onlySwitched { s with cap := t.cap } t ∧ t.cap = s.cap
      ∧ (s.fullNode = true → s.portF.up = true → (∀ n, s.portF.tx ≠ .transit n) → t.portF = { s.portF with
          seq := s.portF.seq + 1
          ins := placeCommand s.portF.ins ⟨.command e.cls,
            formFrame 0x20 (a.cfg.unit.getD 0) s.addr s.portF.seq
              [if e.op = .open then 1 else 2, s.tag, if e.cls = .protect then 1 else 0]⟩ })

/-- A POSITION report that completes or fails the operation in flight of a stage leaves the record of R97 or R99, a failure with
its SWITCH_FAILURE notice and capture trigger; then the stage's queued entry leaves the queue as SATISFIED when its operation
is the reported position with nothing in flight, and a selection follows. A report that does neither leaves the operation in
flight (R92, R93, R96, R97, R98, R99). Last comes what leaving CLOSED does (R128, R152). -/
def Obligations.OperationsCompleteOrFail : Prop :=
  (∀ (s : State) (k : StageIx) (f : InFlight) (r : PositionReport), (s.stage k).cfg.enabled = true →
    (s.stage k).inFlight = some f → s.hasEntry k = false →
    let a := s.stage k
    let t := State.positionRecord r s k
    let done := r.tag = f.tag ∧ r.result = .accepted
      ∧ ((r.pos = .closed ∧ f.op = .close) ∨ (r.pos = .open ∧ f.op = .open))
    let failed := (r.tag = f.tag ∧ r.result = .refused) ∨ r.pos = .unknown
    (done → (t.stage k).inFlight = none
      ∧ (f.op = .close → (t.stage k).state = .closed ∧ (t.stage k).cooling = 0)
      ∧ (f.op = .open → (t.stage k).state = (if a.lockoutPending then .lockedOut else .openCooling)
          ∧ (t.stage k).lockoutPending = false ∧ (t.stage k).closedInCooldown = false
          ∧ (t.stage k).cooling = (if a.stable = some .closed ∨ a.cooling = 0 then a.cfg.cooldown * 1000 else a.cooling)))
    ∧ (¬ done → failed → (t.stage k).inFlight = none ∧ (t.stage k).state = .failed
        ∧ (t.stage k).lockoutPending = a.lockoutPending)
    ∧ (¬ done → ¬ failed → (t.stage k).inFlight = some f ∧ (t.stage k).state = a.state ∧ t.queue = s.queue)
    ∧ (t.stage k).reported = some r.pos ∧ onlySwitched { s with inService := t.inService } t)
  ∧ (∀ (s : State) (k : StageIx) (f : InFlight) (r : PositionReport), (s.stage k).cfg.enabled = true →
    (s.stage k).inFlight = some f →
    let a := s.stage k
    let t := State.positionRecord r s k
    let done := r.tag = f.tag ∧ r.result = .accepted
      ∧ ((r.pos = .closed ∧ f.op = .close) ∨ (r.pos = .open ∧ f.op = .open))
    let failed := (r.tag = f.tag ∧ r.result = .refused) ∨ r.pos = .unknown
    let full := a.cfg.cooldown * 1000
    let turned : Prop := a.stable = some .closed ∧ r.pos = .open
    let seen : Stage := { a with
      reported := some r.pos, arrival := some s.now, silenceFrom := s.now, silent := false
      stable := if r.pos = .open ∨ r.pos = .closed then some r.pos else a.stable
      cooling := if turned then full else a.cooling
      moving := if r.pos = .moving then a.moving else none }
    let completed : Stage := match f.op with
      | .close => { seen with inFlight := none, state := .closed, cooling := 0 }
      | .open => { seen with
          inFlight := none, state := if a.lockoutPending then .lockedOut else .openCooling
          cooling := if turned ∨ a.cooling = 0 then full else a.cooling, lockoutPending := false, closedInCooldown := false }
    let becomes (b : Stage) : State := State.changeStage { s with inService := t.inService } k fun _ => b
    let left (u : State) : State := if a.reported = some .closed ∧ r.pos ≠ .closed then u.leftClosed k else u
    (done → t = left ((becomes completed).testSatisfied k).selection)
    ∧ (¬ done → failed → t = left (((((becomes { seen with inFlight := none, state := .failed }).notice
          (.switchFailure k f (if r.tag = f.tag ∧ r.result = .refused then .refused else .unknown) (some r.pos))).trigger
          .switchFailure (some k) (s.yardIx.map (·.1))).testSatisfied k).selection))
    ∧ (¬ done → ¬ failed → t = left (becomes seen)))
  ∧ ∀ (s : State) (k : StageIx),
    let reached (e : QueueEntry) : Prop := (s.stage k).inFlight = none
      ∧ ((e.op = .open ∧ (s.stage k).reported = some .open) ∨ (e.op = .close ∧ (s.stage k).reported = some .closed))
    (∀ e, s.entryOf k = some e → reached e → s.testSatisfied k = s.dropEntry e .satisfied)
    ∧ ((∀ e, s.entryOf k = some e → ¬ reached e) → s.testSatisfied k = s)

/-- The deadline of an operation in flight fails it, once it is reached: the stage FAILED with nothing in flight, the
SWITCH_FAILURE notice, reason TIMEOUT, the capture trigger, the test of the queued entry and a selection; before it, and with
nothing in flight, nothing changes (R92, R98, R99). The tick at which the close gap runs out makes a selection and no other
does (R94). That a deadline acts at or beyond its span and is otherwise without effect, and the close gap at its very tick
alone, is log entry 8. -/
def Obligations.SupervisorTimersActWhenDue : Prop :=
  ∀ (s : State) (k : StageIx), s.held = false →
    ((s.stage k).inFlight = none → exec (.switchTimeout k) s = .next s)
    ∧ (∀ f, (s.stage k).inFlight = some f →
        ((s.now - f.sent).toNat < (f.deadline - f.sent).toNat → exec (.switchTimeout k) s = .next s)
        ∧ ((f.deadline - f.sent).toNat ≤ (s.now - f.sent).toNat →
            ∃ t : State, exec (.switchTimeout k) s = .next t ∧ onlySwitched s t
              ∧ (s.hasEntry k = false → t.stage k = { s.stage k with state := .failed, inFlight := none })
              ∧ t = (((((s.changeStage k fun a => { a with state := .failed, inFlight := none }).notice
                  (.switchFailure k f .timeout (s.stage k).reported)).trigger .switchFailure (some k)
                  (s.yardIx.map (·.1))).testSatisfied k).selection)))
    ∧ (∀ c, s.lastClose = some c → (s.now - c).toNat = s.link.closeGap → exec .closeGapExpiry s = .next s.selection)
    ∧ ((∀ c, s.lastClose = some c → (s.now - c).toNat ≠ s.link.closeGap) → exec .closeGapExpiry s = .next s)

/-- MANUAL OPEN, MANUAL CLOSE and CAPTURE BALANCE: their refusals in the order of their tables, and what is done when they
pass: the gathering of a NORMAL command of origin MANUAL with its answer, and a capture running from zero (R101, R102,
R140). The model's choices: CAPTURE BALANCE takes every stage with lockout pending as closed out of LOCKED_OUT (log entry 40);
for a stage in CLOSED that is reported MOVING, MANUAL CLOSE follows the gathering (log entry 42) and CAPTURE BALANCE starts a
capture (log entry 43). -/
def Obligations.ManualRequestsCheckInOrder : Prop :=
  ∀ (s : State) (rq : Requester), s.executes →
    (∀ b : Byte, 23 < b.toNat →
      exec (.manualOpen rq b) s = .next (s.reply rq 0x15 false (refused .index))
      ∧ exec (.manualClose rq b) s = .next (s.reply rq 0x16 false (refused .index))
      ∧ exec (.captureBalance rq b) s = .next (s.reply rq 0x17 false (refused .index)))
    ∧ ∀ (k : StageIx) (b : Byte), b.toNat = k.val →
      let a := s.stage k
      let opens (r : Reason) := exec (.manualOpen rq b) s = .next (s.reply rq 0x15 false (refused r))
      let closes (r : Reason) := exec (.manualClose rq b) s = .next (s.reply rq 0x16 false (refused r))
      let captures (r : Reason) := exec (.captureBalance rq b) s = .next (s.reply rq 0x17 false (refused r))
      (if s.mode = .config then opens .mode
        else if a.state = .absent then opens .state
        else ∃ (t : State) (g : Gathered), s.gather k .open .normal .manual = (t, g) ∧ g ≠ .notQueued
          ∧ exec (.manualOpen rq b) s
            = .next (t.reply rq 0x15 false (if g = .already then doneAlready else doneWith [])))
      ∧ (if s.mode = .config then closes .mode
        else if a.state = .absent then closes .state
        else if a.inFlight ≠ none then closes .busy
        else if a.state = .lockedOut ∨ a.state = .failed ∨ a.lockoutPending = true then closes .locked
        else if a.state = .openCooling then closes .cooling
        else if ∃ e, s.entryOf k = some e ∧ e.op = .open ∧ e.cls = .protect then closes .locked
        else ∃ (t : State) (g : Gathered), s.gather k .close .normal .manual = (t, g) ∧ g ≠ .notQueued
          ∧ exec (.manualClose rq b) s
            = .next (t.reply rq 0x16 false (if g = .already then doneAlready else doneWith [])))
      ∧ (if s.mode = .config then captures .mode
        else if a.state ≠ .closed ∨ a.lockoutPending = true then captures .state
        else if a.unb.lowVoltage = true ∨ s.unsupervised k = true then captures .state
        else if a.unb.capture ≠ none then captures .busy
        else exec (.captureBalance rq b) s = .next (
          State.reply { s with stages := s.stages.set k { a with unb := { a.unb with capture := some ⟨0, 0, 0⟩ } } }
            rq 0x17 false (doneWith [])))

/-! ### Chapter 6: voltage control -/

/-- Voltage control evaluates a window by its steps. Vc is the mean of the RMS values of the usable
selected phases, those whose slot for the window is served and complete (R60); without one the window is
missing, the fiftieth in a row suspends control, and the next Vc resumes it (R110, R111). Dead line and restoration come
first, then fast removal, and, unless one was taken, the settle hold or the accumulator with the step decision (R112, R114,
R118 to R122; a partly measured window clears no latch, also under a restore delay shortened to below the count, log entry
48). A step is due at plus or minus Q; it is withheld while a command of voltage control stands, without a
candidate, where its prediction fails, or where gathering does not queue it, and taken it restarts the settle hold (R114,
R117). The accumulator moves by the rows of R113 and stays within Q; the withheld mark is cleared by a magnitude below Q
(R113). -/
def Obligations.AccumulatorStaysWithinLevel : Prop :=
  (∀ (c : ControlSet) (vc : Nat) (v : VoltageState), v.acc.natAbs ≤ c.level →
      let t := integrate c vc v
      t = { v with acc := t.acc, withheld := t.withheld } ∧ t.acc.natAbs ≤ c.level
      ∧ (t.acc.natAbs < c.level → t.withheld = .clear) ∧ (t.acc.natAbs = c.level → t.withheld = v.withheld)
      ∧ (c.setpoint + c.halfBand < vc → 0 < t.acc ∨ c.level = 0)
      ∧ (c.setpoint + c.halfBand < vc → v.acc < 0 → t.acc = min (c.level : Int) ((vc : Int) - (c.setpoint + c.halfBand : Nat)))
      ∧ (c.setpoint + c.halfBand < vc → 0 ≤ v.acc →
          t.acc = min (c.level : Int) (v.acc + ((vc : Int) - (c.setpoint + c.halfBand : Nat))))
      ∧ (vc < c.setpoint - c.halfBand → 0 < v.acc → t.acc = max (-(c.level : Int)) ((vc : Int) - (c.setpoint - c.halfBand : Nat)))
      ∧ (vc < c.setpoint - c.halfBand → v.acc ≤ 0 →
          t.acc = max (-(c.level : Int)) (v.acc + ((vc : Int) - (c.setpoint - c.halfBand : Nat))))
      ∧ (vc ≤ c.setpoint + c.halfBand → c.setpoint - c.halfBand ≤ vc →
          t.acc.natAbs = v.acc.natAbs - c.leak ∧ 0 ≤ t.acc * v.acc))
  ∧ ∀ (s : State) (w : WindowIx),
    let with_ (x : State) (v : VoltageState) : State := { x with vc := v }
    let v := s.vc
    let vs := s.phaseValues w
    let full : Bool := decide (vs.length = (selectedPhases s.phases).length)
    let mean := vs.sum / vs.length
    let valued : VoltageState := { v with lastVc := some (mean, w), missing := 0 }
    (vs = (([(Phase.A, s.phases.a), (.B, s.phases.b), (.C, s.phases.c)].filter (·.2)).filterMap fun p =>
        (s.usable (.busV p.1) w).map (·.rms))
      ∧ (full = true ↔ vs.length = ([s.phases.a, s.phases.b, s.phases.c].filter id).length)
      ∧ ∀ r x, s.usable r w = some x ↔
          ∃ y, s.slotFor r w = some y ∧ y.complete = true ∧ y.by_ ≠ .none ∧ y.vals = some x)
    ∧ (vs = [] → s.voltageEvaluate w =
      (let u := with_ s { v with missing := min 50 (v.missing + 1) }
       if v.missing + 1 = 50 ∧ v.ctl = .active then (with_ u { u.vc with ctl := .suspended }).notice (.suspended false w)
       else u))
    ∧ (vs ≠ [] → v.ctl ≠ .suspended → s.voltageEvaluate w = (with_ s valued).voltageSteps full mean w)
    ∧ (vs ≠ [] → v.ctl = .suspended → s.voltageEvaluate w =
        ((with_ s { valued with ctl := .active, acc := 0, withheld := .clear }).notice (.suspended true w)).voltageSteps
          full mean w)
    ∧ ∀ (c : ControlSet) (vc : Nat) (whole : Bool),
      -- steps 1 to 4 in their order
      (c = (if s.mode = .fallback then s.setB else s.setA) → s.voltageSteps whole vc w =
        (let one := s.deadLineStep c whole vc w
         let two := (with_ one (overvoltage c vc one.vc)).tryFastRemoval
         if two.2 then two.1 else two.1.bandStep c vc))
      -- dead line
      ∧ (let count := if c.deadLevel ≤ vc then 0 else if whole then min 65535 (v.deadCount + 1) else v.deadCount
         let u := with_ s { v with deadCount := count }
         let ks := s.inService.filter fun k => (s.stage k).cfg.enabled && (s.stage k).reported == some .closed
         let opened := ks.foldl (fun x k => (x.gather k .open .protect .deadLine).1) u
         s.deadLineStep c whole vc w = State.restoreStep
           (if count < c.deadDelay then u
           else if v.latch then opened
           else ((with_ opened { opened.vc with latch := true }).notice
             (.deadLine false w vc (some ks.length))).trigger .deadLine none (some w)) c whole vc w)
      -- restoration
      ∧ s.restoreStep c whole vc w = (
          if v.latch = false then s
          else if vc < c.restoreLevel then with_ s { v with restoreCount := 0 }
          else if whole = false then s
          else if c.restoreDelay ≤ v.restoreCount + 1 then
            (with_ s { v with
              latch := false, restoreCount := 0, acc := 0, withheld := .clear, hold := c.settleHold }).notice
              (.deadLine true w vc none)
          else with_ s { v with restoreCount := v.restoreCount + 1 })
      -- overvoltage
      ∧ overvoltage c vc v = (
          if vc ≤ c.vmax then { v with overCount := 0, fastCount := 0, fastPending := false }
          else if v.overCount = 0 then { v with overCount := 1 }
          else if v.overCount = 1 then { v with overCount := 2, fastPending := true }
          else if v.fastPending = true then v
          else if c.fastInterval ≤ v.fastCount + 1 then { v with fastPending := true, fastCount := 0 }
          else { v with fastCount := v.fastCount + 1 })
      -- fast removal
      ∧ ((v.fastPending = false ∨ s.originStands [.fastRemoval] = true ∨ s.removalCandidate = none) →
          s.tryFastRemoval = (s, false))
      ∧ (∀ k, v.fastPending = true → s.originStands [.fastRemoval] = false → s.removalCandidate = some k →
          let g := s.gather k .open .normal .fastRemoval
          s.tryFastRemoval = (if g.2 = .queued then
            (with_ g.1 { g.1.vc with fastPending := false, fastCount := 0, acc := 0, withheld := .clear }, true)
          else (g.1, false)))
      -- settle hold, accumulator and step decision
      ∧ (0 < v.hold → s.bandStep c vc = with_ s { v with hold := v.hold - 1 })
      ∧ (v.hold = 0 → s.bandStep c vc = (with_ s (integrate c vc v)).stepDecision c vc)
      ∧ (v.acc ≠ c.level → v.acc ≠ -c.level → s.stepDecision c vc = s)
      ∧ (∀ op m, 1 ≤ c.level →
          ((op = Operation.open ∧ m = Withheld.high ∧ v.acc = c.level)
            ∨ (op = .close ∧ m = .low ∧ v.acc = -c.level)) →
          let held_ (x : State) := with_ x { x.vc with withheld := m }
          let candidate := if op = .open then s.removalCandidate else s.insertionCandidate
          let fits (k : StageIx) : Prop :=
            if op = .open then c.setpoint - c.halfBand + (s.stage k).cfg.effect ≤ vc
            else vc + (s.stage k).cfg.effect ≤ c.setpoint + c.halfBand
          ((s.originStands [.voltage, .fastRemoval] = true ∨ candidate = none ∨ ∃ k, candidate = some k ∧ ¬ fits k) →
            s.stepDecision c vc = held_ s)
          ∧ ∀ k, s.originStands [.voltage, .fastRemoval] = false → candidate = some k → fits k →
            let g := s.gather k op .normal .voltage
            s.stepDecision c vc = (if g.2 = .queued then
              with_ g.1 { g.1.vc with acc := 0, withheld := .clear, hold := c.settleHold }
            else held_ g.1))

/-- The removal candidate is the first qualifying stage of the in-service list, an ailing one ahead of every healthy one; the
insertion candidate meets every condition of R116 and comes first by rank, operations count and index, and none is chosen
while the dead-line latch is set (R115, R116). -/
def Obligations.CandidatesAreFirstInOrder : Prop :=
  ∀ s : State,
    let goes (k : StageIx) := (s.stage k).state = .closed ∧ (s.stage k).blocked = false ∧ (s.stage k).silent = false
      ∧ s.hasEntry k = false
    let ails (k : StageIx) := (s.stage k).unbalanceAlarm = true ∨ (s.stage k).overload = true
    let comes (k : StageIx) := (s.stage k).state = .openReady ∧ (s.stage k).blocked = false ∧ (s.stage k).silent = false
      ∧ (s.stage k).lockoutPending = false ∧ s.hasEntry k = false ∧ s.currentlyServed (.neutralI k) = true
      ∧ (s.stage k).bar = false ∧ ∀ h ∈ (s.stage k).cfg.orders, s.busAlarmOf h = false
    (s.removalCandidate = none ↔ ∀ k ∈ s.inService, ¬ goes k)
    ∧ (∀ k, s.removalCandidate = some k → ∃ before after, s.inService = before ++ k :: after ∧ goes k
        ∧ (ails k → ∀ j ∈ before, goes j → ¬ ails j)
        ∧ (¬ ails k → (∀ j ∈ before, ¬ goes j) ∧ ∀ j ∈ after, goes j → ¬ ails j))
    ∧ (s.insertionCandidate = none ↔ s.vc.latch = true ∨ ∀ k, ¬ comes k)
    ∧ ∀ k, s.insertionCandidate = some k → s.vc.latch = false ∧ comes k
        ∧ ∀ j, j ≠ k → comes j →
          (s.stage k).cfg.rank < (s.stage j).cfg.rank
          ∨ ((s.stage k).cfg.rank = (s.stage j).cfg.rank
            ∧ ((s.stage k).cfg.operations < (s.stage j).cfg.operations
              ∨ ((s.stage k).cfg.operations = (s.stage j).cfg.operations ∧ k < j)))

/-- WRITE CONTROL: an empty part reads; a full set is stored clamped, and when it is the set in force it restarts the settle
hold with the accumulator at 0; a phase selection is stored, A alone for an empty one, and while the elements run it starts
the counts again (R105, R106, R107, R108). -/
def Obligations.WriteControlStoresAndRestarts : Prop :=
  ∀ (s : State) (rq : Requester), s.executes →
    (∀ i, exec (.writeControlSet rq i none) s = .next (s.reply rq 0x30 false (doneWith (encSet (s.controlSet i)))))
    ∧ exec (.writeControlPhases rq none) s = .next (s.reply rq 0x30 false (doneWith (encPhases s.phases)))
    ∧ (∀ (i : SetId) (w : ControlSetWrite),
        let c := clampedSet w
        let vc : VoltageState := if (i = .A ∧ s.mode = .service) ∨ (i = .B ∧ s.mode = .fallback) then
          { s.vc with acc := 0, withheld := .clear, hold := c.settleHold } else s.vc
        let t : State := match i with
          | .A => { s with setA := c, vc := vc }
          | .B => { s with setB := c, vc := vc }
        exec (.writeControlSet rq i (some w)) s
          = .next (t.reply rq 0x30 false (carried (decide (c ≠ givenSet w)) (encSet c))))
    ∧ (∀ p : PhaseSet,
        let q : PhaseSet := if p = ⟨false, false, false⟩ then ⟨true, false, false⟩ else p
        let hold := if s.mode = .fallback then s.setB.settleHold else s.setA.settleHold
        let vc : VoltageState := if s.mode = .config then s.vc else
          { s.vc with
            acc := 0, withheld := .clear, hold := hold, overCount := 0, fastCount := 0, deadCount := 0
            restoreCount := 0, missing := 0, fastPending := false }
        exec (.writeControlPhases rq (some p)) s
          = .next (State.reply { s with phases := q, vc := vc } rq 0x30 false (carried (decide (q ≠ p)) (encPhases q))))
    ∧ ∀ w : ControlSetWrite,
        let c := clampedSet w
        c.setpoint = max 800 (min w.setpoint.toNat 1200) ∧ c.halfBand = max 5 (min w.halfBand.toNat 100)
        ∧ c.level = max 100 (min w.level.toNat 60000) ∧ c.leak = min w.leak.toNat 1000
        ∧ c.settleHold = min w.settleHold.toNat 3000 ∧ c.vmax = max 1000 (min w.vmax.toNat 1300)
        ∧ c.fastInterval = max 1 (min w.fastInterval.toNat 600) ∧ c.deadLevel = max 100 (min w.deadLevel.toNat 800)
        ∧ c.deadDelay = max 1 (min w.deadDelay.toNat 60)
        ∧ c.restoreLevel = max (c.deadLevel + 1) (max 500 (min w.restoreLevel.toNat 1000))
        ∧ c.restoreDelay = max 1 (min w.restoreDelay.toNat 30000)

/-! ### Chapter 7: unbalance protection -/

/-- An unbalance element evaluates only an enabled stage reported CLOSED with both phasors usable; below 1000 peak counts of
the bus it only sets the low-voltage block; otherwise the neutral phasor is rotated onto the bus, the compensation subtracted,
the unbalance stored, a running balance capture adds the phasor, and both counters move by their levels with a dropout of
15/16 (R127, R129, R130, R131, R132, R141). Then the alarm is raised where its counter reaches its delay, or cleared at the
dropout outside a lockout; the trip sets lockout pending and submits a PROTECT OPEN with its notice and trigger, a standing
trip submits it again, and an OPEN in flight of class NORMAL is raised to PROTECT where gathering answers ALREADY; the
sixteenth window of a capture stores the compensation with its BALANCE notice (R133, R134, R135, R136, R137, R142). -/
def Obligations.UnbalanceCountersMove : Prop :=
  (∀ (s : State) (k : StageIx) (w : WindowIx),
    let a := s.stage k
    let t := s.unbalanceEvaluate k w
    let moved (count delay level u : Nat) : Nat :=
      if level ≤ u then min delay (count + 1) else if u ≤ level * 15 / 16 then 0 else count
    ((a.cfg.enabled = false ∨ a.reported ≠ some .closed) → t = s)
    ∧ ((s.usable (.neutralI k) w = none ∨ s.usable (.busV .A) w = none) → t = s)
    ∧ (∀ n v, a.cfg.enabled = true → a.reported = some .closed → s.usable (.neutralI k) w = some n →
        s.usable (.busV .A) w = some v →
        let m := magnitude v.re v.im
        let x := rotate n.re n.im v.re v.im m
        let u := unbalancePm x a.cfg.comp
        (m < 1000 → t = { s with stages := s.stages.set k { a with unb := { a.unb with lowVoltage := true } } })
        ∧ (1000 ≤ m → onlySwitched s t ∧ (t.stage k).unb.lastU = some ⟨u, x.1, x.2, w⟩ ∧ (t.stage k).unb.lowVoltage = false
          ∧ (t.stage k).unb.alarmCount = moved a.unb.alarmCount a.cfg.alarmDelay a.cfg.alarmLevel u
          ∧ (t.stage k).unb.tripCount = moved a.unb.tripCount a.cfg.tripDelay a.cfg.tripLevel u
          ∧ (1 ≤ a.cfg.alarmLevel → a.cfg.alarmLevel ≤ u → a.unb.alarmCount + 1 = a.cfg.alarmDelay →
              (t.stage k).unbalanceAlarm = true)
          ∧ t = ((State.unbalanceAlarmStep { s with stages := s.stages.set k { a with unb := {
              lastU := some ⟨u, x.1, x.2, w⟩, lowVoltage := false
              alarmCount := moved a.unb.alarmCount a.cfg.alarmDelay a.cfg.alarmLevel u
              tripCount := moved a.unb.tripCount a.cfg.tripDelay a.cfg.tripLevel u
              capture := a.unb.capture.map fun b => ⟨b.count + 1, b.sumRe + x.1, b.sumIm + x.2⟩ } } }
              k a.unb.alarmCount u w).unbalanceTripStep k a.unb.tripCount u w).finishCapture k w)))
  ∧ (∀ (nre nim vre vim : Int) (m : Nat),
    magnitude vre vim = isqrt (vre * vre + vim * vim).toNat
    ∧ rotate nre nim vre vim m = ((nre * vre + nim * vim).tdiv m, (nim * vre - nre * vim).tdiv m))
  ∧ (∀ (re im cre cim : Int),
    unbalancePm (re, im) none = isqrt (re * re + im * im).toNat * 1000 / 11585
    ∧ unbalancePm (re, im) (some (cre, cim))
      = isqrt ((re - cre) * (re - cre) + (im - cim) * (im - cim)).toNat * 1000 / 11585)
  ∧ ∀ (s : State) (k : StageIx) (old u : Nat) (w : WindowIx),
    let a := s.stage k
    let with_ (b : Stage) : State := { s with stages := s.stages.set k b }
    let kept : Prop := a.state = .lockedOut ∨ a.lockoutPending = true
    let raised : Prop := old + 1 = a.cfg.alarmDelay ∧ a.unb.alarmCount = a.cfg.alarmDelay ∧ a.unbalanceAlarm = false
    let dropped : Prop := u ≤ a.cfg.alarmLevel * 15 / 16 ∧ a.unbalanceAlarm = true ∧ ¬ kept
    let tripped : Prop := old + 1 = a.cfg.tripDelay ∧ a.unb.tripCount = a.cfg.tripDelay
    s.unbalanceAlarmStep k old u w = (
      if raised then ((with_ { a with unbalanceAlarm := true }).notice
        (.unbalanceAlarm k true none (some u) (some w))).trigger .unbalanceAlarm (some k) (some w)
      else if dropped then (with_ { a with unbalanceAlarm := false }).notice
        (.unbalanceAlarm k false (some .dropout) (some u) (some w))
      else s)
    ∧ s.unbalanceTripStep k old u w = (
      if tripped then
        let g := (with_ { a with lockoutPending := true }).submitTrip k
        (g.1.notice (.unbalanceTrip k u w g.2)).trigger .unbalanceTrip (some k) (some w)
      else if a.unb.tripCount = a.cfg.tripDelay then (s.submitTrip k).1
      else s)
    ∧ (let g := s.gather k .open .protect .unbalanceTrip
      s.submitTrip k = (
        if g.2 = .already then
          ({ g.1 with stages := g.1.stages.set k { g.1.stage k with
              inFlight := (g.1.stage k).inFlight.map fun f => if f.op = .open ∧ f.cls = .normal then
                { f with cls := .protect, origin := .unbalanceTrip } else f } }, .already)
        else g))
    ∧ ((∀ b, a.unb.capture = some b → b.count < 16) → s.finishCapture k w = s)
    ∧ ∀ b, a.unb.capture = some b → 16 ≤ b.count →
      let re := b.sumRe.tdiv 16
      let im := b.sumIm.tdiv 16
      let inRange (x : Int) := max (-4096) (min 4095 x)
      s.finishCapture k w = (with_ { a with
          cfg := { a.cfg with comp := some (inRange re, inRange im) }, unb := { a.unb with capture := none } }).notice
        (.balanceStored k (inRange re) (inRange im) (decide (inRange re ≠ re ∨ inRange im ≠ im)) w)

/-- The law of R137: every step keeps a stage with lockout pending FAILED, or with an OPEN in flight, or with a PROTECT OPEN
queued, together with what this rests on (TripSafe). Lockout pending ends only in LOCKED_OUT or in a reset, and LOCKED_OUT
ends only in lockout pending, by a RELEASE (as a request, or in a frame received on port S), or in a reset (R82, R83, R137; out
of LOCKED_OUT by UNKNOWN, by the moving timer or by an OPEN sent: log entry 41). It holds right after reset. The window in
which the trip counter reaches its delay leaves lockout pending and a PROTECT OPEN of the stage queued or in flight (R135,
R136). -/
def Obligations.TripStandsUntilOpened : Prop :=
  (∀ s t : State, SwitchingSafe s → TripSafe s → step s = .next t → TripSafe t)
  ∧ (∀ (s t : State) (k : StageIx), SwitchingSafe s → TripSafe s → step s = .next t → t.held = false →
      ((s.stage k).lockoutPending = true → (t.stage k).lockoutPending = true ∨ (t.stage k).state = .lockedOut)
      ∧ ((s.stage k).state = .lockedOut → (∀ rq b, s.pending.head? ≠ some (.release rq b)) →
          (∀ bs, s.pending.head? ≠ some (.frameReceived .S bs)) →
          (t.stage k).state = .lockedOut ∨ (t.stage k).lockoutPending = true))
  ∧ TripSafe State.reset
  ∧ ∀ (s : State) (k : StageIx) (old u : Nat) (w : WindowIx), SwitchingSafe s → s.mode ≠ .config →
      (s.stage k).state ≠ .absent → (s.stage k).reported = some .closed →
      (s.stage k).unb.tripCount = (s.stage k).cfg.tripDelay → old + 1 = (s.stage k).cfg.tripDelay →
      let t := s.unbalanceTripStep k old u w
      onlySwitched s t ∧ (t.stage k).lockoutPending = true
      ∧ ((∃ e ∈ t.queue, e.stage = k ∧ e.op = .open ∧ e.cls = .protect)
        ∨ ∃ f, (t.stage k).inFlight = some f ∧ f.op = .open ∧ f.cls = .protect ∧ (t.stage k).state = .opening)

/-! ### Chapters 6 and 8: voltage control and the harmonic elements -/

/-- A harmonic element judges a window whose slot is usable, not clipped, with its harmonics available for the orders of the
table and a frequency within band, and holds every other (R151, R152). Each quantity of a phase is moved against its limit;
its phase alarm is raised where the counter reaches its delay and cleared where the recover count does, the bus alarm's
notice and capture trigger following where no other phase holds it (R153, R154, R155, R163). A stage's overload counter
moves against its own limit; where it reaches its delay the flag is set, a NORMAL OPEN submitted and the bar set, and below
the dropout the flag is cleared (R157, R158, R159, R160). -/
def Obligations.HarmonicElementsJudgeWindows : Prop :=
  (∀ (s : State) (r : Role) (w : WindowIx) (vs : List Nat) (thd : Option Nat),
    s.judged r w = some (vs, thd) ↔ ∃ x v h f, s.slotFor r w = some x ∧ s.usable r w = some v
      ∧ s.freqAt w = some f ∧ f.off = false ∧ x.clipped = false ∧ v.harm = some h
      ∧ h.orders.map (·.1) = s.table.orders.map (·.1) ∧ h.values = some vs ∧ h.thd = thd)
  ∧ (∀ (s : State) (p : Phase) (w : WindowIx),
    (s.judged (.busV p) w = none → s.busHarmonicEvaluate p w = s)
    ∧ ∀ vs thd, s.judged (.busV p) w = some (vs, thd) →
      let orders := vs.zipIdx.foldl (fun u x => u.judgeQuantity p w (some x.2) x.1) s
      let all := match thd with
        | some t => orders.judgeQuantity p w none t
        | none => orders
      s.busHarmonicEvaluate p w = (if p = .A then allStages.foldl (fun u k => State.barStep w k u) all else all))
  ∧ (∀ (s : State) (p : Phase) (w : WindowIx) (q : Option Nat) (v : Nat),
    (∀ i, q = some i → i < s.alarms[phaseIx p].orders.length) → 1 ≤ s.limitOf q →
    let a := s.getQuantity p q
    let t := s.judgeQuantity p w q v
    let b := t.getQuantity p q
    let level := s.limitOf q
    let raised : Prop := a.alarm = false ∧ level ≤ v ∧ a.count + 1 = s.table.alarmDelay
    let low : Prop := v ≤ level * 15 / 16
    let recovered : Prop := a.alarm = true ∧ low ∧ s.table.recoverDelay ≤ a.recover + 1
    let u : State := { s with alarms := t.alarms }
    b.count = (if level ≤ v then min s.table.alarmDelay (a.count + 1) else if low then 0 else a.count)
    ∧ (b.alarm = true ↔ raised ∨ (a.alarm = true ∧ ¬ recovered))
    ∧ (a.alarm = false → ¬ raised → b.recover = a.recover)
    ∧ ((raised ∨ recovered ∨ (a.alarm = true ∧ ¬ low)) → b.recover = 0)
    ∧ (a.alarm = true → low → ¬ recovered → b.recover = a.recover + 1)
    ∧ (∀ p' q', (p', q') ≠ (p, q) → t.getQuantity p' q' = s.getQuantity p' q')
    ∧ (raised → s.busAlarm q = false → t = State.trigger
        (u.notice (.harmonicAlarm true none (s.orderOf q) (some p) (some v) (some w))) .busHarmonic none (some w))
    ∧ (recovered → t.busAlarm q = false →
        t = u.notice (.harmonicAlarm false (some .recovered) (s.orderOf q) (some p) (some v) (some w)))
    ∧ ((raised → s.busAlarm q = true) → (recovered → t.busAlarm q = true) → t = u))
  ∧ (∀ (s : State) (k : StageIx) (w : WindowIx),
    let a := s.stage k
    ((a.cfg.enabled = false ∨ a.cfg.thdLimit = 0 ∨ a.reported ≠ some .closed) → s.stageHarmonicEvaluate k w = s)
    ∧ ((∀ vs t, s.judged (.stageI k) w ≠ some (vs, some t)) → s.stageHarmonicEvaluate k w = s)
    ∧ (∀ vs t, a.cfg.enabled = true → 1 ≤ a.cfg.thdLimit → a.reported = some .closed →
      s.judged (.stageI k) w = some (vs, some t) →
      let with_ (b : Stage) : State := { s with stages := s.stages.set k b }
      let count := if a.cfg.thdLimit ≤ t then min a.cfg.thdDelay (a.overCount + 1)
        else if t ≤ a.cfg.thdLimit * 15 / 16 then 0 else a.overCount
      (a.cfg.thdLimit ≤ t → a.overCount + 1 = a.cfg.thdDelay →
        let g := (with_ { a with overCount := count, overload := true }).gather k .open .normal .harmonicRemoval
        let barred : State :=
          { g.1 with stages := g.1.stages.set k { g.1.stage k with bar := true, barCount := 0 } }
        s.stageHarmonicEvaluate k w = (if a.overload then barred else
          barred.notice (.harmonicOverload k .raised none (some t) (some w) (some g.2))))
      ∧ (t ≤ a.cfg.thdLimit * 15 / 16 → s.stageHarmonicEvaluate k w = (if a.overload then
          (with_ { a with overCount := count, overload := false }).notice
            (.harmonicOverload k .cleared (some .dropout) none none none)
        else with_ { a with overCount := count }))
      ∧ (a.cfg.thdLimit * 15 / 16 < t → ¬ (a.cfg.thdLimit ≤ t ∧ a.overCount + 1 = a.cfg.thdDelay) →
          s.stageHarmonicEvaluate k w = with_ { a with overCount := count }))
    ∧ State.barStep w k s = (
      if a.bar = false then s
      else if s.anyBusAlarm = true then { s with stages := s.stages.set k { a with barCount := 0 } }
      else if s.table.recoverDelay ≤ a.barCount + 1 then
        State.notice { s with stages := s.stages.set k { a with bar := false, barCount := 0 } }
          (.harmonicOverload k .barCleared none none (some w) none)
      else { s with stages := s.stages.set k { a with barCount := a.barCount + 1 } }))

/-! ### Chapter 8 and chapter 11: tables and settings -/

/-- WRITE HARMONIC: refused FULL, INDEX or DUPLICATE in that order; carried out, the table is stored clamped, every phase
alarm, counter and overload counter is cleared (R149, R150). WRITE LINK: refused INDEX for a value outside its list, MODE for
a change of nominal frequency or close limit outside CONFIG; carried out, the settings are stored clamped, the watchdog
restarts, a changed nominal frequency discards the frequency history, and a close gap that has run out brings a selection
(R94, R180, R196, R197; check mode codes 0 CUT and 1 HOLD are log entry 19, the nominal byte 50 or 60 log entry 30, the
selection at every such write log entry 31). APPEND MAP: refused LENGTH without 1 to 16 entries, MODE outside CONFIG; the
entries for which there is room are checked and appended in order, the first that fails refuses all with its reason and
position and leaves the part unchanged; each entry beyond the room is counted as overflow and makes the reply CLAMPED. The
i-th new entry has the fields of the i-th entry of the request, its capture flag cleared for FORWARD_ONLY or behind eight
flags; a new entry with its flag acts on capture by its state, and without one capture is left as it is (R23, R24, R25, R174,
log entry 44; LENGTH: 11 section 11.1). -/
def Obligations.TablesAndSettingsAreWritten : Prop :=
  (∀ (s : State) (rq : Requester), s.executes →
    exec (.writeHarmonic rq none) s = .next (s.reply rq 0x31 false (doneWith (encTable s.table)))
    ∧ exec (.writeLink rq none) s = .next (s.reply rq 0x32 false (doneWith (encLink s.link)))
    ∧ (∀ w : HarmonicWrite,
        let turned (r : Reason) := exec (.writeHarmonic rq (some w)) s = .next (s.reply rq 0x31 false (refused r))
        let c : HarmonicTable := {
          orders := w.orders.map fun x => (x.1.toNat, max 1 (min x.2.toNat 1000))
          thdLimit := max 1 (min w.thdLimit.toNat 1000)
          alarmDelay := max 1 (min w.alarmDelay.toNat 600)
          recoverDelay := max 1 (min w.recoverDelay.toNat 30000) }
        if 8 < w.orders.length then turned .full
        else if ∃ x ∈ w.orders, x.1.toNat < 2 ∨ 15 < x.1.toNat then turned .index
        else if ¬ (w.orders.map fun x => x.1).Nodup then turned .duplicate
        else ∃ t : State, exec (.writeHarmonic rq (some w)) s
            = .next (t.reply rq 0x31 false (carried (decide (c ≠ givenTable w)) (encTable c)))
          ∧ t.table = c
          ∧ t.anyBusAlarm = false
          ∧ (∀ p q, t.getQuantity p q = ⟨0, 0, false⟩)
          ∧ (∀ k, t.stage k = { s.stage k with overCount := 0 })
          ∧ onlyNoticed { s with table := t.table, alarms := t.alarms, stages := t.stages } t)
    ∧ ∀ w : LinkWrite,
        let turned (r : Reason) := exec (.writeLink rq (some w)) s = .next (s.reply rq 0x32 false (refused r))
        let bad := (∃ b ∈ w.checkModes.toList, b ≠ 0 ∧ b ≠ 1) ∨ w.noticeAddress = 255 ∨ (w.nominal ≠ 50 ∧ w.nominal ≠ 60)
        let l : LinkSettings := {
          checkModes := w.checkModes.map fun b => if b = 0 then .cut else .hold
          threshold := max 8 (min w.threshold.toNat 256)
          watchdog := min w.watchdog.toNat 600
          alarmMask := w.alarmMask
          noticeAddress := w.noticeAddress
          nominal := if w.nominal = 60 then .hz60 else .hz50
          closeLimit := max 1 (min w.closeLimit.toNat 4)
          closeGap := min w.closeGap.toNat 10000
          closeTimeout := max 20 (min w.closeTimeout.toNat 2000)
          openTimeout := max 20 (min w.openTimeout.toNat 2000)
          silence := max 100 (min w.silence.toNat 10000) }
        let u : State := { s with
          link := l
          watchdog := if w.watchdog = 0 then .off else .running s.now
          tracker := if l.nominal = s.link.nominal then s.tracker else
            { s.tracker with crossings := [], last := none, since := 0, freq := none } }
        if bad then turned .index
        else if s.mode ≠ .config ∧ (l.nominal ≠ s.link.nominal ∨ l.closeLimit ≠ s.link.closeLimit) then turned .mode
        else exec (.writeLink rq (some w)) s = .next (State.reply
          (match s.lastClose with
          | some t => if l.closeGap ≤ (s.now - t).toNat then u.selection else u
          | none => u) rq 0x32 false (carried (linkBrought w l) (encLink l))))
  ∧ (∀ (s : State) (rq : Requester) (es : List MapEntryWrite), s.executes →
    ((es = [] ∨ 16 < es.length) → exec (.appendMap rq es) s = .next (s.reply rq 0x21 false (refused .length)))
    ∧ (1 ≤ es.length → es.length ≤ 16 →
      (s.mode ≠ .config → exec (.appendMap rq es) s = .next (s.reply rq 0x21 false (refused .mode)))
      ∧ (s.mode = .config →
        let taken := es.take (64 - s.map.length)
        let stored (ws : List MapEntryWrite) := appendEntries 0 s.map (s.sources.map (·.addr)) false ws
        ((∃ m srcs cleared, stored taken = .stored m srcs cleared)
          ∨ ∃ i w m srcs cleared r, taken[i]? = some w ∧ stored (taken.take i) = .stored m srcs cleared
            ∧ (match readEntry w with | none => some Reason.index | some e => entryCheck m srcs e) = some r)
        ∧ (∀ i w m srcs cleared r, taken[i]? = some w → stored (taken.take i) = .stored m srcs cleared →
          (match readEntry w with | none => some Reason.index | some e => entryCheck m srcs e) = some r →
          exec (.appendMap rq es) s = .next (s.reply rq 0x21 false (refusedAt r (BitVec.ofNat 8 i))))
        ∧ ∀ m srcs cleared, stored taken = .stored m srcs cleared →
          ∃ t : State, exec (.appendMap rq es) s
              = .next (t.reply rq 0x21 false (carried (cleared || decide (taken.length < es.length)) []))
            ∧ t.map = m ∧ (∃ new : List MapEntry, m = s.map ++ new ∧ new.length = taken.length
              ∧ (∀ i w, taken[i]? = some w → ∃ e, new[i]? = some e ∧ e.source = w.source ∧ e.slot.val = w.slot.toNat
                  ∧ roleOfCode w.role = some e.role ∧ e.gain = w.gain
                  ∧ (e.capture = true ↔ w.capture = true ∧ e.role ≠ none
                    ∧ ((s.map ++ new.take i).filter (·.capture)).length < 8))
              ∧ (cleared = true ↔
                  ∃ (i : Nat) (w : MapEntryWrite) (e : MapEntry), taken[i]? = some w ∧ new[i]? = some e ∧ w.capture = true ∧ e.capture = false)
              ∧ srcs = new.foldl (fun known e => if e.source ∈ known then known else known ++ [e.source])
                  (s.sources.map (·.addr))
              ∧ let u : State := { s with map := t.map, sources := t.sources, mapOverflow := t.mapOverflow }
                ((∀ e ∈ new, e.capture = false) → t = u)
                ∧ ((∃ e ∈ new, e.capture = true) → CaptureEdited u t))
            ∧ t.sources = s.sources ++ (srcs.drop s.sources.length).map (fun a => ⟨a, .new, none, s.now, 0, none, 0⟩)
            ∧ t.mapOverflow = bumpBy s.mapOverflow (es.length - taken.length)
            ∧ onlyNoticed { s with map := t.map, sources := t.sources, mapOverflow := t.mapOverflow, cap := t.cap } t)))
  ∧ (∀ w : MapEntryWrite, readEntry w = none ↔
      w.source = 0 ∨ w.source = 255 ∨ 16 ≤ w.slot.toNat ∨ roleOfCode w.role = none)
  ∧ ∀ (m : List MapEntry) (srcs : List Byte) (e : MapEntry),
      (entryCheck m srcs e = some .duplicate ↔
        (∃ r, e.role = some r ∧ 2 ≤ (entriesOf m r).length) ∨ ∃ x ∈ m, x.source = e.source ∧ x.slot = e.slot)
      ∧ (entryCheck m srcs e = some .full ↔ entryCheck m srcs e ≠ some .duplicate ∧ e.source ∉ srcs ∧ 8 ≤ srcs.length)
      ∧ (∀ r, entryCheck m srcs e = some r → r = .duplicate ∨ r = .full)

/-! ### Timeouts of intake, evaluation and capture -/

/-- SOURCE_LOST and the 10 s timeouts act at or beyond their span, and otherwise change nothing (log entry 8): a lost source has
no streak, no last counter and no current window, its SOURCE notice is sent, and the windows it served are handed over
incomplete, in map order (log entry 10); the yard window index, a role's last handed-over window and, once for each start of
its 10 s, an element's windows become absent; the capture store is emptied or its recording ended, cut short with its
CAPTURE_READY notice, a recording with an empty store without a record (R28, R39, R40, R41, R59, R165, R169). The model's
choices in the capture clauses: with an empty store the very tick alone acts (log entry 8), with no window ever taken in none
does (log entry 45), and a recording of 16 windows is cut short like any other (log entry 44). -/
def Obligations.IntakeTimersActWhenDue : Prop :=
  ∀ s : State, s.held = false →
    (∀ a, s.source? a = none → exec (.sourceLost a) s = .next s)
    ∧ (∀ a x, s.source? a = some x →
      ((x.status = .lost ∨ (s.now - x.arrival).toNat < 8) → exec (.sourceLost a) s = .next s)
      ∧ (x.status ≠ .lost → 8 ≤ (s.now - x.arrival).toNat → ∃ t : State, exec (.sourceLost a) s = .next t
        ∧ (∃ y, t.source? a = some y ∧ y.status = .lost ∧ y.streak = 0 ∧ y.last = none)
        ∧ (∀ b, b ≠ a → t.source? b = s.source? b) ∧ onlyEvaluated { s with sources := t.sources } t
        ∧ (∀ r o e, (s.role r).openWin = some o → servingEntry s.map r o.by_ = some e → e.source = a →
          (t.role r).openWin = none ∧ (t.role r).handed = some (o.w, s.now)
          ∧ ∃ y, (t.role r).newest = some y ∧ y.w = o.w ∧ y.by_ = o.by_ ∧ y.complete = false)
        ∧ t = (s.servedFrom a).foldl (State.closeWindow false) (State.notice { s with
            sources := s.sources.map fun z => if z.addr = a then
              { z with status := .lost, streak := 0, last := none, window := none, qualified := 0 } else z }
            (.source a .lost))))
    ∧ (∀ a, (s.servedFrom a).Sublist (mappedRoles s.map)
      ∧ ∀ r, r ∈ s.servedFrom a ↔
        ∃ o e, (s.role r).openWin = some o ∧ servingEntry s.map r o.by_ = some e ∧ e.source = a)
    ∧ (∀ r, ((s.role r).openWin = none → State.closeWindow false s r = s)
      ∧ ∀ o, (s.role r).openWin = some o → State.closeWindow false s r
        = State.handOver { s with roles := s.roles.set (roleIx r) { s.role r with openWin := none } } r
            ⟨o.w, o.by_, false, o.clipped, o.questionable, o.pos⟩)
    ∧ exec .yardWindowIndexTimeout s = .next
        (match s.yardIx with
        | some (_, t) => if 10000 ≤ (s.now - t).toNat then { s with yardIx := none } else s
        | none => s)
    ∧ (∀ r, exec (.lastHandedOverTimeout r) s = .next
        (match (s.role r).handed with
        | some (_, t) =>
          if 10000 ≤ (s.now - t).toNat then
            { s with roles := s.roles.set (roleIx r) { s.role r with handed := none } }
          else s
        | none => s))
    ∧ (∀ e, exec (.evaluationStateTimeout e) s = .next
        (match (s.eval e).since with
        | some t =>
          if s.mode ≠ .config ∧ 10000 ≤ (s.now - t).toNat then
            { s with evals := s.evals.set (elementIx e) ⟨none, none, none⟩ }
          else s
        | none => s))
    ∧ ((∀ t, s.cap.taken = some t → (s.now - t).toNat < 10000) → exec .captureStoreTimeout s = .next s)
    ∧ (∀ t, s.cap.taken = some t → s.cap.store = [] →
        ((s.now - t).toNat ≠ 10000 → exec .captureStoreTimeout s = .next s)
        ∧ ((s.now - t).toNat = 10000 → s.cap.status = .recording → exec .captureStoreTimeout s = .next { s with
            cap := { s.cap with status := if s.channels = [] then .disarmed else .armed, header := none } }))
    ∧ ∀ t, s.cap.taken = some t → s.cap.store ≠ [] → 10000 ≤ (s.now - t).toNat →
        (s.cap.status = .disarmed ∨ s.cap.status = .armed →
          exec .captureStoreTimeout s = .next { s with cap := { s.cap with store := [] } })
        ∧ (s.cap.status = .recording →
          let cut : State := { s with cap := { s.cap with status := .held, cutShort := true } }
          (∃ u : State, exec .captureStoreTimeout s = .next u ∧ u.cap = cut.cap ∧ onlyNoticed cut u)
          ∧ ∀ h, s.cap.header = some h →
            exec .captureStoreTimeout s = .next (cut.notice (.captureReady h s.cap.store.length true)))
        ∧ (s.cap.status = .held → exec .captureStoreTimeout s = .next s)

/-- The tracker takes a BUS_VA window: one that is not served, or does not follow the last sample's window, discards the
history, and a served one is walked position by position. A missing position discards the history; a sample at or above 0
behind one below 0 at the counter before is a crossing, its position in sixteenths by the fraction of R52 joining the list
of at most five; any other sample counts up the samples since the newest crossing, 64 of which discard the history, the
sample becoming the last one of the new history (log entry 22; R52, R53). The frequency is floor(nominal × 2048 / P4) of
five crossings, off-nominal more than 3 % away from nominal; with fewer than five there is none (R54, R55). -/
def Obligations.FrequencyFromFiveCrossings : Prop :=
  (∀ t : Tracker,
    let discarded : Tracker := { t with crossings := [], last := none, since := 0, freq := none }
    (∀ c : SampleCounter, t.step c none = discarded
      ∧ (∀ a b : Int, t.last = some (c - 1, a) → a < 0 → 0 ≤ b → t.step c (some b) = { t with
          crossings := (if t.crossings.length < 5 then t.crossings else t.crossings.drop 1)
            ++ [BitVec.ofNat 20 (16 * (c - 1).toNat + min 15 (-a * 16 / (b - a)).toNat)]
          since := 0, last := some (c, b) })
      ∧ ∀ b : Int, (∀ a, t.last = some (c - 1, a) → 0 ≤ a ∨ b < 0) →
          t.step c (some b) = (
            if t.crossings = [] then { t with last := some (c, b) }
            else if t.since + 1 < 64 then { t with since := t.since + 1, last := some (c, b) }
            else { discarded with last := some (c, b) }))
    ∧ ∀ (nominal : Nat) (c : ClosedWindow), c.pos.length = 32 →
      let walked (u : Tracker) : Tracker :=
        (c.pos.zipIdx.foldl (fun u x => u.step (BitVec.ofNat 16 (32 * c.w.toNat + x.2)) x.1) u).finish nominal c.w
      (c.by_ = .none → t.take nominal c = discarded)
      ∧ (c.by_ ≠ .none →
          (t.last = none → t.take nominal c = walked t)
          ∧ ∀ l a, t.last = some (l, a) →
            ((l.toNat / 32 + 1) % 2048 = c.w.toNat → t.take nominal c = walked t)
            ∧ ((l.toNat / 32 + 1) % 2048 ≠ c.w.toNat → t.take nominal c = walked discarded)))
  ∧ ∀ (t : Tracker) (nominal : Nat) (w : WindowIx), nominal = 50000 ∨ nominal = 60000 →
    (t.crossings.length ≠ 5 → t.finish nominal w = { t with freq := none })
    ∧ ∀ a b c d e : BitVec 20, t.crossings = [a, b, c, d, e] →
      ∃ f : Freq, t.finish nominal w = { t with freq := some f, updated := some w }
        ∧ f.mHz = nominal * 2048 / ((e.toNat + 1048576 - a.toNat) % 1048576)
        ∧ f.dev = (max f.mHz nominal - min f.mHz nominal) * 1000 / nominal
        ∧ (nominal = 50000 → (f.off = false ↔ 48451 ≤ f.mHz ∧ f.mHz ≤ 51549))
        ∧ (nominal = 60000 → (f.off = false ↔ 58141 ≤ f.mHz ∧ f.mHz ≤ 61859))

/-! ### Chapter 9: capture requests -/

/-- The four capture requests: ARM CAPTURE in the order of its checks, with P brought to 15 and the store trimmed; TRIGGER
CAPTURE by the table of R166; READ CAPTURE of a held record; RELEASE CAPTURE by state (R166, R170, R171, R172, R173). The
result codes 0 to 3 and the mode codes 0 and 1 are log entry 19, the layout of READ CAPTURE's reply log entry 20, its yes and
no fields as flags log entry 54; that ARM CAPTURE in ARMED and RELEASE CAPTURE in DISARMED carry no ALREADY mark is log entry
53. -/
def Obligations.CaptureRequestsByState : Prop :=
  ∀ (s : State) (rq : Requester), s.executes →
    let c := s.cap
    (∀ w : Option ArmWrite,
      let turned (r : Reason) := exec (.armCapture rq w) s = .next (s.reply rq 0x50 false (refused r))
      if (∃ x, w = some x ∧ x.mode ≠ 0 ∧ x.mode ≠ 1) then turned .index
      else if c.status = .recording ∨ c.status = .held then turned .state
      else if ∀ e ∈ s.map, e.capture = false ∨ e.role = none then turned .nomap
      else
        let set : CaptureState := match w with
          | none => c
          | some x => { c with
              mode := if x.mode = 0 then .single else .repeating, preCount := min x.preCount.toNat 15, mask := x.mask }
        exec (.armCapture rq w) s = .next
          (State.reply { s with cap := { set with status := .armed, store := c.store.drop (c.store.length - (set.preCount + 1)) } }
            rq 0x50 false (carried (w.any fun x => decide (15 < x.preCount.toNat)) (encCaptureSettings set))))
    ∧ (∀ code, code = (if c.mask[5] = false then 3 else match c.status with
          | .armed => 0 | .recording => 1 | .held => 2 | .disarmed => (2 : Byte)) →
        ∃ t : State, exec (.triggerCapture rq) s = .next (t.reply rq 0x51 false (doneWith [code]))
          ∧ t = { s with cap := t.cap } ∧ t.cap.store = c.store
          ∧ (code = 3 → t = s)
          ∧ (code = 0 → t.cap.status = .recording
              ∧ t.cap.header = some ⟨.request, none, s.yardIx.map (·.1), s.now, c.store.length - 1, s.channels, 0⟩)
          ∧ (code = 1 → t.cap = { c with header := t.cap.header }
              ∧ ∀ h, c.header = some h → t.cap.header = some { h with joined := min 255 (h.joined + 1) })
          ∧ (code = 2 → t.cap = { c with missed := bump c.missed }))
    ∧ (∀ window channel : Byte,
        (c.status ≠ .held → exec (.readCapture rq window channel) s = .next (s.reply rq 0x52 false (refused .state)))
        ∧ ∀ h, c.status = .held → c.header = some h →
          (c.store.length ≤ window.toNat ∨ h.channels.length ≤ channel.toNat →
            exec (.readCapture rq window channel) s = .next (s.reply rq 0x52 false (refused .index)))
          ∧ ∀ x p, c.store[window.toNat]? = some x → channel.toNat < h.channels.length →
            x.pieces[channel.toNat]? = some p →
            exec (.readCapture rq window channel) s = .next (s.reply rq 0x52 false
              (doneWith (encHeader h c.store.length c.cutShort ++ be 2 x.w.toNat ++ encPiece p))))
    ∧ (c.status = .recording → exec (.releaseCapture rq) s = .next (s.reply rq 0x53 false (refused .busy)))
    ∧ (c.status ≠ .recording →
        exec (.releaseCapture rq) s = .next (State.reply { s with cap := (match c.status with
          | .held => { c with
              store := [], header := none
              status := if c.mode = .single ∨ s.channels = [] then .disarmed else .armed }
          | .armed | .disarmed | .recording => { c with status := .disarmed }) } rq 0x53 false (doneWith [])))

/-! ### Chapter 10: part modes, time base, resets and start-up -/

/-- ENTER SERVICE, ENTER CONFIG, FORCE FALLBACK and RESUME: their refusals in order, with the lowest failing stage, and what a
change of mode does. ENTER SERVICE starts every element (no window, counters 0, the phase alarms kept, those of an unmapped role
too, log entry 49) and voltage control,
and gives the stages reported OPEN their full cooldown. FORCE FALLBACK takes the MANUAL entries out of the queue and RESUME
none, both restart the settle hold under the set then in force and make a selection, the selection last (R84, R103, R109,
R145, R161, R177, R178, R179; the order is log entry 15). -/
def Obligations.PartModeRequests : Prop :=
  ∀ (s : State) (rq : Requester), s.executes →
    let lowest (ok : Option Position → Prop) (k : StageIx) : Prop :=
      (s.stage k).cfg.enabled = true ∧ ¬ ok (s.stage k).reported
      ∧ ∀ j, j < k → (s.stage j).cfg.enabled = true → ok (s.stage j).reported
    let settled (p : Option Position) : Prop := p = some .open ∨ p = some .closed
    let busy : Prop := s.queue ≠ [] ∨ ∃ k, (s.stage k).inFlight ≠ none
    (s.mode ≠ .config → exec (.enterService rq) s = .next (s.reply rq 0x40 false (refused .mode)))
    ∧ (s.mode = .config →
      (entriesOf s.map (.busV .A) = [] → exec (.enterService rq) s = .next (s.reply rq 0x40 false (refused .nomap)))
      ∧ (entriesOf s.map (.busV .A) ≠ [] →
        (∀ k, lowest settled k →
          exec (.enterService rq) s = .next (s.reply rq 0x40 false (refusedAt .state (BitVec.ofNat 8 k.val))))
        ∧ ((∀ k, (s.stage k).cfg.enabled = true → settled (s.stage k).reported) → s.queue = [] →
          ∃ t : State, exec (.enterService rq) s = .next (t.reply rq 0x40 false (doneWith []))
            ∧ t.mode = .service ∧ onlyNoticed { s with
                mode := t.mode, vc := t.vc, evals := t.evals, stages := t.stages, alarms := t.alarms } t
            ∧ t.vc = { resetVoltage with ctl := .active, hold := s.setA.settleHold }
            ∧ (∀ e, t.eval e = ⟨none, none, some s.now⟩)
            ∧ t.alarms = s.alarms.map (fun a => ⟨a.orders.map fun q => { q with count := 0, recover := 0 },
                { a.thd with count := 0, recover := 0 }⟩)
            ∧ ∀ k, t.stage k =
              (if (s.stage k).cfg.enabled = true ∧ (s.stage k).reported = some .open then
                { s.stage k with
                  cooling := (s.stage k).cfg.cooldown * 1000
                  state := if (s.stage k).state = .openReady then .openCooling else (s.stage k).state
                  unb := resetUnbalance, overCount := 0 }
              else { s.stage k with unb := resetUnbalance, overCount := 0 }))))
    ∧ (s.mode = .config → exec (.enterConfig rq) s = .next (s.reply rq 0x41 false (refused .mode)))
    ∧ (s.mode ≠ .config →
      (busy → exec (.enterConfig rq) s = .next (s.reply rq 0x41 false (refused .busy)))
      ∧ (¬ busy →
        (∀ k, lowest (· = some .open) k →
          exec (.enterConfig rq) s = .next (s.reply rq 0x41 false (refusedAt .state (BitVec.ofNat 8 k.val))))
        ∧ ((∀ k, (s.stage k).cfg.enabled = true → (s.stage k).reported = some .open) →
          ∃ t : State, exec (.enterConfig rq) s = .next (t.reply rq 0x41 false (doneWith []))
            ∧ t.mode = .config ∧ t.vc = { s.vc with ctl := .stopped }
            ∧ onlyNoticed { s with mode := t.mode, vc := t.vc, cap := t.cap } t
            ∧ (s.cap.status = .armed ∨ s.cap.status = .disarmed → t.cap = { s.cap with store := [] })
            ∧ (s.cap.status = .recording ∨ s.cap.status = .held → t.cap = s.cap))))
    ∧ (s.mode = .config → exec (.forceFallback rq) s = .next (s.reply rq 0x42 false (refused .mode))
      ∧ exec (.resume rq) s = .next (s.reply rq 0x43 false (refused .mode)))
    ∧ (s.mode = .service → exec (.resume rq) s = .next (s.reply rq 0x43 false doneAlready)
      ∧ ∃ u : State, exec (.forceFallback rq) s = .next (u.selection.reply rq 0x42 false (doneWith []))
        ∧ u.mode = .fallback ∧ u.vc = { s.vc with acc := 0, withheld := .clear, hold := s.setB.settleHold }
        ∧ onlyNoticed { s with mode := u.mode, vc := u.vc, queue := u.queue } u
        ∧ (s.queue.Pairwise (fun a b => a.stage ≠ b.stage) → u.queue = s.queue.filter fun e => e.origin != .manual))
    ∧ (s.mode = .fallback → exec (.forceFallback rq) s = .next (s.reply rq 0x42 false doneAlready)
      ∧ ∃ u : State, exec (.resume rq) s = .next (u.selection.reply rq 0x43 false (doneWith []))
        ∧ u.mode = .service ∧ u.vc = { s.vc with acc := 0, withheld := .clear, hold := s.setA.settleHold }
        ∧ onlyNoticed { s with mode := u.mode, vc := u.vc } u)

/-- A tick counts part time, the recovery measurement and the cooldowns, of which the internal clock skips one tick in 16; the
clock source changes by the table of R182 (R78, R181, R182), back to REFERENCE with the tick that follows 16 whole
milliseconds of ticks, and before that not at all (log entry 27). A RUNNING watchdog whose timeout has passed becomes
EXPIRED, and in SERVICE brings FALLBACK (R179, R180); one that is not due changes nothing (log entry 8). -/
def Obligations.TimeBaseClockAndWatchdog : Prop :=
  ∀ s : State, s.held = false →
    (∃ t : State, exec .timeBaseTick s = .next t
      ∧ t = { s with now := s.now + 1, recovery := t.recovery, tickPhase := t.tickPhase, stages := t.stages }
      ∧ (s.clock = .reference → t.tickPhase = s.tickPhase ∧ t.recovery = s.recovery)
      ∧ (s.clock = .internal → t.tickPhase = (if s.tickPhase < 15 then s.tickPhase + 1 else 0)
          ∧ t.recovery = min 17 (s.recovery + 1))
      ∧ ∀ k, t.stage k = { s.stage k with
          cooling := if (s.stage k).cfg.enabled = true ∧ (s.stage k).awaiting = false
              ∧ (s.clock = .reference ∨ s.tickPhase < 15) then (s.stage k).cooling - 1 else (s.stage k).cooling })
    ∧ (s.clock = .reference → exec .referenceClockReturn s = .next s ∧ exec .referenceGapDuringRecovery s = .next s
      ∧ exec .referenceClockLoss s = .next (State.notice { s with clock := .internal, recovery := 0 } (.clock .internal)))
    ∧ (s.clock = .internal → exec .referenceClockLoss s = .next s
      ∧ exec .referenceGapDuringRecovery s = .next { s with recovery := 0 }
      ∧ (s.recovery < 17 → exec .referenceClockReturn s = .next s)
      ∧ (17 ≤ s.recovery → exec .referenceClockReturn s
          = .next (State.notice { s with clock := .reference, recovery := 0 } (.clock .reference))))
    ∧ ((∀ c, s.watchdog = .running c → (s.now - c).toNat < s.link.watchdog * 1000) → exec .watchdogExpiry s = .next s)
    ∧ ∀ c, s.watchdog = .running c → s.link.watchdog * 1000 ≤ (s.now - c).toNat →
      (s.mode ≠ .service → exec .watchdogExpiry s = .next { s with watchdog := .expired })
      ∧ (s.mode = .service → ∃ t : State, exec .watchdogExpiry s = .next t ∧ t.watchdog = .expired ∧ t.mode = .fallback
        ∧ onlySwitched { s with watchdog := t.watchdog, mode := t.mode, vc := t.vc } t
        ∧ t.vc = { s.vc with acc := 0, withheld := .clear, hold := s.setB.settleHold }
        ∧ ∀ e ∈ t.queue, e.origin ≠ .manual)

/-- POWER_ON, SUPPLY_LOW and PIN resets clear all state and all settings, a further condition in their own reset period
changing nothing; YARD ALARM is asserted while held (R183, R186; the chain address, the clock source and the times of the
cleared state are log entry 1). START_UP releases a held part and changes nothing of a running one (log entry 28): it samples
the pins and starts the time base at 0, the watchdog, the ports and CONFIG, and sends START, then CLOCK on the internal
oscillator (R185). -/
def Obligations.ResetsClearAndStartUpReleases : Prop :=
  (∀ s : State,
    let wiped (c : ResetKind) (t : State) : Prop := yardAlarm t = true ∧ t = { State.reset with
      resetCause := c
      portS := { resetPort with line := t.portS.line }
      portF := { resetPort with line := t.portF.line }
      fresh := s.fresh
      pending := s.pending }
    (∃ t : State, exec .powerOnReset s = .next t ∧ wiped .powerOn t)
    ∧ (s.held = false ∨ s.resetCause = .restart →
      (∃ t : State, exec .supplyLowReset s = .next t ∧ wiped .supplyLow t)
      ∧ ∃ t : State, exec .pinReset s = .next t ∧ wiped .pin t)
    ∧ (s.held = true → s.resetCause ≠ .restart → exec .supplyLowReset s = .next s ∧ exec .pinReset s = .next s))
  ∧ ∀ (s : State) (pins : Byte) (reference upS upF : Bool),
    (s.held = false → exec (.startUp pins reference upS upF) s = .next s)
    ∧ (s.held = true → exec (.startUp pins reference upS upF) s = .next (
        let running : State := { s with
          held := false, addr := pins, now := 0, recovery := 0, mode := .config
          clock := if reference then .reference else .internal
          watchdog := if s.link.watchdog = 0 then .off else .running 0
          portS := { s.portS with up := upS }
          portF := { s.portF with up := upF } }
        let started := running.notice (.start s.resetCause pins)
        if reference then started else started.notice (.clock .internal)))

/-- RESTART: BUSY with anything queued, in flight or pending; otherwise DONE and pending, taking effect at the end of its
reply, or at once when the reply is discarded. The end of the reply is RESTART_TAKES_EFFECT while it is being sent, or the
FRAME_BOUNDARY of port S that ends it (log entry 18), and a LINK_DOWN of port S discards it (log entry 17). It keeps the
settings and clears the live state, the chain address and the clock source standing at the values of log entry 1 meanwhile,
each enabled stage awaiting its position with the full cooldown held (R87, R184, R198). -/
def Obligations.RestartKeepsSettings : Prop :=
  let restarted (s t : State) : Prop :=
    t = { State.reset with
      resetCause := .restart
      link := s.link
      map := s.map
      setA := s.setA
      setB := s.setB
      phases := s.phases
      table := s.table
      cap := { resetCapture with mode := s.cap.mode, preCount := s.cap.preCount, mask := s.cap.mask }
      portS := { resetPort with line := t.portS.line }
      portF := { resetPort with line := t.portF.line }
      sources := s.sources.map fun x => ⟨x.addr, .new, none, 0, 0, none, 0⟩
      stages := t.stages
      alarms := t.alarms
      fresh := t.fresh
      pending := s.pending }
    ∧ (∀ p q, t.getQuantity p q = ⟨0, 0, false⟩)
    ∧ ∀ k, t.stage k = (if (s.stage k).cfg.enabled then
        { resetStage with
          cfg := (s.stage k).cfg, state := .openCooling, awaiting := true, cooling := (s.stage k).cfg.cooldown * 1000 }
      else { resetStage with cfg := (s.stage k).cfg })
  (∀ (s : State) (rq : Requester), s.executes →
    ((s.queue ≠ [] ∨ (∃ k, (s.stage k).inFlight ≠ none) ∨ s.restartPending = true) →
      exec (.restart rq) s = .next (s.reply rq 0x44 false (refused .busy)))
    ∧ (s.queue = [] → (∀ k, (s.stage k).inFlight = none) → s.restartPending = false →
      (s.portS.up = true → s.portS.ins.length < 16 →
        exec (.restart rq) s = .next (State.reply { s with restartPending := true } rq 0x44 true (doneWith [])))
      ∧ (s.portS.up = false ∨ 16 ≤ s.portS.ins.length →
        ∃ t : State, exec (.restart rq) s = .next t ∧ restarted s t)))
  ∧ (∀ (s : State) (f : InsertFrame) (n : Nat), s.held = false → s.restartPending = true → s.portS.tx = .insert f n →
    f.kind = .reply true → ∃ t : State, exec .restartTakesEffect s = .next t ∧ restarted s t)
  ∧ (∀ (s : State) (f : InsertFrame) (n : Nat), s.held = false → s.portS.up = true → s.restartPending = true →
    s.portS.tx = .insert f n → f.kind = .reply true → ∃ t : State, exec (.frameBoundary .S) s = .next t ∧ restarted s t)
  ∧ (∀ s : State, s.held = false → s.portS.up = true → s.restartPending = true →
    ∃ t : State, exec (.linkDown .S) s = .next t ∧ restarted s t)
  ∧ ∀ s : State, (s.held = true ∨ s.restartPending = false) → exec .restartTakesEffect s = .next s

/-- YARD ALARM is asserted while held in reset, and afterwards exactly while a class is present and not masked; each of the
nine classes is present while its condition holds (R186). -/
def Obligations.YardAlarmFollowsClasses : Prop :=
  ∀ s : State,
    (s.held = true → yardAlarm s = true)
    ∧ (s.held = false → (yardAlarm s = true ↔ ∃ i : Fin 9, s.alarmClasses[i] = true ∧ s.link.alarmMask[i] = false))
    ∧ (s.alarmClasses[0] = true ↔ ∃ k, (s.stage k).cfg.enabled = true
        ∧ ((s.stage k).state = .lockedOut ∨ (s.stage k).lockoutPending = true))
    ∧ (s.alarmClasses[1] = true ↔ ∃ k, (s.stage k).cfg.enabled = true ∧ (s.stage k).state = .failed)
    ∧ (s.alarmClasses[2] = true ↔ ∃ k, (s.stage k).unbalanceAlarm = true)
    ∧ (s.alarmClasses[3] = true ↔ s.thdAlarm = true ∨ (∃ i, i < s.table.orders.length ∧ s.orderAlarm i = true)
        ∨ ∃ k, (s.stage k).overload = true)
    ∧ (s.alarmClasses[4] = true ↔ s.mode = .fallback)
    ∧ (s.alarmClasses[5] = true ↔ ∃ x ∈ s.sources, x.status = .lost)
    ∧ (s.alarmClasses[6] = true ↔ s.clock = .internal)
    ∧ (s.alarmClasses[7] = true ↔ s.vc.ctl = .suspended)
    ∧ (s.alarmClasses[8] = true ↔ s.addr = 0 ∨ s.addr = 255)

/-! ### Chapter 11: the request decoder -/

/-- A MANAGE payload that carries a request, written field by field from the tables of the rules that own it, is carried out
as that request, whatever its fields hold (R187, R188; requestParts gives the payload of every request row). A payload
without a whole header is refused LENGTH with the bytes it has echoed, a kind outside Table 11-3 UNKNOWN, a parameter part of
another length than its request has LENGTH (with the stage index for WRITE STAGE, log entry 20), and a section or selector
outside its list INDEX (R188, R191, R107). -/
def Obligations.RequestFramesAreDecoded : Prop :=
  (∀ (s : State) (i : Instr) (rq : Requester) (kind : Byte) (ps : List Byte), s.executes → WellFormed i = true →
    requestParts i = some (rq, kind, ps) →
    exec i s = .next (s.manage rq.source (managePayload rq.number kind ps)))
  ∧ (∀ (s : State) (src : Byte) (payload : List Byte), payload.length < 3 →
    s.manage src payload = s.reply ⟨src, wordAt payload 1⟩ (byteAt payload 0) false (refused .length))
  ∧ ∀ (s : State) (rq : Requester) (kind : Byte) (ps : List Byte),
    let answers (a : Answer) : Prop :=
      s.manage rq.source (managePayload rq.number kind ps) = s.reply rq kind false a
    let count := (byteAt ps 0).toNat
    (kind ∉ [0x01, 0x02, 0x03, 0x04, 0x10, 0x11, 0x12, 0x13, 0x14, 0x15, 0x16, 0x17, 0x20, 0x21, 0x22, 0x30, 0x31, 0x32,
        0x40, 0x41, 0x42, 0x43, 0x44, 0x50, 0x51, 0x52, 0x53] → answers (refused .unknown))
    ∧ (kind ∈ [0x03, 0x04, 0x20, 0x40, 0x41, 0x42, 0x43, 0x44, 0x51, 0x53] → ps.length ≠ 0 → answers (refused .length))
    ∧ (kind ∈ [0x10, 0x12, 0x13, 0x14, 0x15, 0x16, 0x17, 0x22] → ps.length ≠ 1 → answers (refused .length))
    ∧ (kind = 0x52 → ps.length ≠ 2 → answers (refused .length))
    ∧ (kind ∈ [0x01, 0x11, 0x21, 0x30] → ps = [] → answers (refused .length))
    ∧ (kind = 0x01 → ps ≠ [] → (4 < count → answers (refused .index))
      ∧ (count = 2 → ps.length ≠ 2 → answers (refused .length))
      ∧ (count ≤ 4 → count ≠ 2 → ps.length ≠ 1 → answers (refused .length)))
    ∧ (kind = 0x02 → (ps.length < 2 ∨ ps.length ≠ 2 + (byteAt ps 1).toNat) → answers (refused .length))
    ∧ (kind = 0x11 → ps ≠ [] → ps.length ≠ 28 + (byteAt ps 20).toNat → answers (refusedAt .length (byteAt ps 0)))
    ∧ (kind = 0x21 → ps ≠ [] → ps.length ≠ 1 + 6 * count → answers (refused .length))
    ∧ (kind = 0x30 → ps ≠ [] → (2 < count → answers (refused .index))
      ∧ (count ≤ 1 → ps.length ≠ 1 → ps.length ≠ 21 → answers (refused .length))
      ∧ (count = 2 → ps.length ≠ 1 → ps.length ≠ 4 → answers (refused .length)))
    ∧ (kind = 0x31 → ps ≠ [] → ps.length ≠ 7 + 3 * count → answers (refused .length))
    ∧ (kind = 0x32 → ps ≠ [] → ps.length ≠ 31 → answers (refused .length))
    ∧ (kind = 0x50 → ps ≠ [] → ps.length ≠ 8 → answers (refused .length))

/-! ### Chapter 11: the reading requests -/

/-- The reading requests answer DONE with their data and leave the part as it is but for the reply, INDEX above their range.
READ STATUS: the five sections, those with fixed parts fitting one reply, STAGES with a count and one 39-byte summary for
each of up to 6 stages. READ COUNTERS: the link states, 0 for UP and 1 for DOWN (log entry 19), and the twenty counters of
four bytes each. READ STAGE: the record. READ MAP: up to 16 entries from a start index, each as stored with its primary or
backup mark, and the size of the map. CLEAR COUNTERS sets the twenty counters to 0 and changes nothing else (R26, R80, R187,
R190, R191, R192, R193, R194, R195; the layouts the rules give in words are log entry 20, the two-valued items as flags log
entry 54, the absent ALREADY mark log entry 53). -/
def Obligations.StatusAndCountersAnswer : Prop :=
  (∀ (s : State) (rq : Requester), s.executes →
    exec (.readStatusPart rq) s = .next (s.reply rq 0x01 false (doneWith s.statusPart))
    ∧ (s.sources.length ≤ 8 → s.statusPart.length = 45 + 6 * s.sources.length)
    ∧ exec (.readStatusControl rq) s = .next (s.reply rq 0x01 false (doneWith s.statusControl))
    ∧ s.statusControl.length = 26
    ∧ exec (.readStatusHarmonic rq) s = .next (s.reply rq 0x01 false (doneWith s.statusHarmonic))
    ∧ s.statusHarmonic.length = 18 + 17 * s.table.orders.length
    ∧ exec (.readStatusCapture rq) s = .next (s.reply rq 0x01 false (doneWith s.statusCapture))
    ∧ exec (.readCounters rq) s = .next (s.reply rq 0x03 false (doneWith
        ((if s.portS.up then 0 else 1) :: (if s.portF.up then 0 else 1) :: s.counters.flatMap (be 4))))
    ∧ s.counters.length = 20
    ∧ ∃ t : State, exec (.clearCounters rq) s = .next (t.reply rq 0x04 false (doneWith []))
        ∧ sameButCounters s t ∧ ∀ n ∈ t.counters, n = 0)
  ∧ (∀ (s : State) (rq : Requester) (b : Byte), s.executes →
    (23 < b.toNat → exec (.readStage rq b) s = .next (s.reply rq 0x10 false (refused .index))
      ∧ exec (.readStatusStages rq b) s = .next (s.reply rq 0x01 false (refused .index)))
    ∧ (∀ k : StageIx, b.toNat = k.val →
        exec (.readStage rq b) s = .next (s.reply rq 0x10 false (doneWith (s.encStage k)))
        ∧ ∃ data : List Byte, exec (.readStatusStages rq b) s = .next (s.reply rq 0x01 false (doneWith data))
          ∧ data = BitVec.ofNat 8 (min 6 (24 - k.val)) :: ((allStages.drop k.val).take 6).flatMap s.stageSummary
          ∧ data.length = 1 + 39 * min 6 (24 - k.val))
    ∧ (63 < b.toNat → exec (.readMap rq b) s = .next (s.reply rq 0x22 false (refused .index)))
    ∧ (b.toNat ≤ 63 → ∃ data : List Byte, exec (.readMap rq b) s = .next (s.reply rq 0x22 false (doneWith data))
        ∧ data = BitVec.ofNat 8 (min 16 (s.map.length - b.toNat))
            :: ((s.map.zipIdx.drop b.toNat).take 16).flatMap (fun x => encEntry s.map x.2 x.1)
            ++ [BitVec.ofNat 8 s.map.length]
        ∧ data.length = 2 + 7 * min 16 (s.map.length - b.toNat)))
  ∧ ∀ (m : List MapEntry) (i : Nat) (e : MapEntry),
      encEntry m i e = [e.source, BitVec.ofNat 8 e.slot.val,
        (match e.role with | none => 255 | some r => BitVec.ofNat 8 (roleCode r)),
        e.gain.extractLsb' 8 8, e.gain.extractLsb' 0 8, (if e.capture then 1 else 0),
        (match e.role with | none => 2 | some r => if entriesOf (m.take i) r = [] then 0 else 1)]
end

