-- ==== Sys2Proof/Laws/State.lean ====
section
/-! SUPPORT. One lemma per field per update of the state, true by computation: an update changes the field it names and no
other. -/

namespace Sys2Proof.Machine

/-! ### `modPort` -/

@[simp] theorem State.modPort_held (s : State) (p : Port) (f : PortState → PortState) : (s.modPort p f).held = s.held := by cases p <;> rfl
@[simp] theorem State.modPort_resetCause (s : State) (p : Port) (f : PortState → PortState) : (s.modPort p f).resetCause = s.resetCause := by cases p <;> rfl
@[simp] theorem State.modPort_mode (s : State) (p : Port) (f : PortState → PortState) : (s.modPort p f).mode = s.mode := by cases p <;> rfl
@[simp] theorem State.modPort_addr (s : State) (p : Port) (f : PortState → PortState) : (s.modPort p f).addr = s.addr := by cases p <;> rfl
@[simp] theorem State.modPort_now (s : State) (p : Port) (f : PortState → PortState) : (s.modPort p f).now = s.now := by cases p <;> rfl
@[simp] theorem State.modPort_clock (s : State) (p : Port) (f : PortState → PortState) : (s.modPort p f).clock = s.clock := by cases p <;> rfl
@[simp] theorem State.modPort_recovery (s : State) (p : Port) (f : PortState → PortState) : (s.modPort p f).recovery = s.recovery := by cases p <;> rfl
@[simp] theorem State.modPort_watchdog (s : State) (p : Port) (f : PortState → PortState) : (s.modPort p f).watchdog = s.watchdog := by cases p <;> rfl
@[simp] theorem State.modPort_restartPending (s : State) (p : Port) (f : PortState → PortState) : (s.modPort p f).restartPending = s.restartPending := by cases p <;> rfl
@[simp] theorem State.modPort_link (s : State) (p : Port) (f : PortState → PortState) : (s.modPort p f).link = s.link := by cases p <;> rfl
@[simp] theorem State.modPort_preemptions (s : State) (p : Port) (f : PortState → PortState) : (s.modPort p f).preemptions = s.preemptions := by cases p <;> rfl
@[simp] theorem State.modPort_repliesDropped (s : State) (p : Port) (f : PortState → PortState) : (s.modPort p f).repliesDropped = s.repliesDropped := by cases p <;> rfl
@[simp] theorem State.modPort_noticesDropped (s : State) (p : Port) (f : PortState → PortState) : (s.modPort p f).noticesDropped = s.noticesDropped := by cases p <;> rfl
@[simp] theorem State.modPort_map (s : State) (p : Port) (f : PortState → PortState) : (s.modPort p f).map = s.map := by cases p <;> rfl
@[simp] theorem State.modPort_sources (s : State) (p : Port) (f : PortState → PortState) : (s.modPort p f).sources = s.sources := by cases p <;> rfl
@[simp] theorem State.modPort_roles (s : State) (p : Port) (f : PortState → PortState) : (s.modPort p f).roles = s.roles := by cases p <;> rfl
@[simp] theorem State.modPort_yardIx (s : State) (p : Port) (f : PortState → PortState) : (s.modPort p f).yardIx = s.yardIx := by cases p <;> rfl
@[simp] theorem State.modPort_malformedSamples (s : State) (p : Port) (f : PortState → PortState) : (s.modPort p f).malformedSamples = s.malformedSamples := by cases p <;> rfl
@[simp] theorem State.modPort_lateSamples (s : State) (p : Port) (f : PortState → PortState) : (s.modPort p f).lateSamples = s.lateSamples := by cases p <;> rfl
@[simp] theorem State.modPort_mapOverflow (s : State) (p : Port) (f : PortState → PortState) : (s.modPort p f).mapOverflow = s.mapOverflow := by cases p <;> rfl
@[simp] theorem State.modPort_tracker (s : State) (p : Port) (f : PortState → PortState) : (s.modPort p f).tracker = s.tracker := by cases p <;> rfl
@[simp] theorem State.modPort_evals (s : State) (p : Port) (f : PortState → PortState) : (s.modPort p f).evals = s.evals := by cases p <;> rfl
@[simp] theorem State.modPort_stages (s : State) (p : Port) (f : PortState → PortState) : (s.modPort p f).stages = s.stages := by cases p <;> rfl
@[simp] theorem State.modPort_inService (s : State) (p : Port) (f : PortState → PortState) : (s.modPort p f).inService = s.inService := by cases p <;> rfl
@[simp] theorem State.modPort_tickPhase (s : State) (p : Port) (f : PortState → PortState) : (s.modPort p f).tickPhase = s.tickPhase := by cases p <;> rfl
@[simp] theorem State.modPort_malformedPositions (s : State) (p : Port) (f : PortState → PortState) : (s.modPort p f).malformedPositions = s.malformedPositions := by cases p <;> rfl
@[simp] theorem State.modPort_queue (s : State) (p : Port) (f : PortState → PortState) : (s.modPort p f).queue = s.queue := by cases p <;> rfl
@[simp] theorem State.modPort_tag (s : State) (p : Port) (f : PortState → PortState) : (s.modPort p f).tag = s.tag := by cases p <;> rfl
@[simp] theorem State.modPort_lastClose (s : State) (p : Port) (f : PortState → PortState) : (s.modPort p f).lastClose = s.lastClose := by cases p <;> rfl
@[simp] theorem State.modPort_setA (s : State) (p : Port) (f : PortState → PortState) : (s.modPort p f).setA = s.setA := by cases p <;> rfl
@[simp] theorem State.modPort_setB (s : State) (p : Port) (f : PortState → PortState) : (s.modPort p f).setB = s.setB := by cases p <;> rfl
@[simp] theorem State.modPort_phases (s : State) (p : Port) (f : PortState → PortState) : (s.modPort p f).phases = s.phases := by cases p <;> rfl
@[simp] theorem State.modPort_vc (s : State) (p : Port) (f : PortState → PortState) : (s.modPort p f).vc = s.vc := by cases p <;> rfl
@[simp] theorem State.modPort_table (s : State) (p : Port) (f : PortState → PortState) : (s.modPort p f).table = s.table := by cases p <;> rfl
@[simp] theorem State.modPort_alarms (s : State) (p : Port) (f : PortState → PortState) : (s.modPort p f).alarms = s.alarms := by cases p <;> rfl
@[simp] theorem State.modPort_cap (s : State) (p : Port) (f : PortState → PortState) : (s.modPort p f).cap = s.cap := by cases p <;> rfl
@[simp] theorem State.modPort_fresh (s : State) (p : Port) (f : PortState → PortState) : (s.modPort p f).fresh = s.fresh := by cases p <;> rfl
@[simp] theorem State.modPort_pending (s : State) (p : Port) (f : PortState → PortState) : (s.modPort p f).pending = s.pending := by cases p <;> rfl

@[simp] theorem State.modPort_port (s : State) (p : Port) (f : PortState → PortState) :
    (s.modPort p f).port p = f (s.port p) := by cases p <;> rfl

@[simp] theorem State.modPort_other (s : State) (p : Port) (f : PortState → PortState) :
    (s.modPort p f).port (otherPort p) = s.port (otherPort p) := by cases p <;> rfl

@[simp] theorem State.modPort_of_other (s : State) (p : Port) (f : PortState → PortState) :
    (s.modPort (otherPort p) f).port p = s.port p := by cases p <;> rfl

@[simp] theorem otherPort_otherPort (p : Port) : otherPort (otherPort p) = p := by cases p <;> rfl

/-! ### `modStage` -/

@[simp] theorem State.modStage_held (s : State) (k : StageIx) (f : Stage → Stage) : (s.modStage k f).held = s.held := rfl
@[simp] theorem State.modStage_resetCause (s : State) (k : StageIx) (f : Stage → Stage) : (s.modStage k f).resetCause = s.resetCause := rfl
@[simp] theorem State.modStage_mode (s : State) (k : StageIx) (f : Stage → Stage) : (s.modStage k f).mode = s.mode := rfl
@[simp] theorem State.modStage_addr (s : State) (k : StageIx) (f : Stage → Stage) : (s.modStage k f).addr = s.addr := rfl
@[simp] theorem State.modStage_now (s : State) (k : StageIx) (f : Stage → Stage) : (s.modStage k f).now = s.now := rfl
@[simp] theorem State.modStage_clock (s : State) (k : StageIx) (f : Stage → Stage) : (s.modStage k f).clock = s.clock := rfl
@[simp] theorem State.modStage_recovery (s : State) (k : StageIx) (f : Stage → Stage) : (s.modStage k f).recovery = s.recovery := rfl
@[simp] theorem State.modStage_watchdog (s : State) (k : StageIx) (f : Stage → Stage) : (s.modStage k f).watchdog = s.watchdog := rfl
@[simp] theorem State.modStage_restartPending (s : State) (k : StageIx) (f : Stage → Stage) : (s.modStage k f).restartPending = s.restartPending := rfl
@[simp] theorem State.modStage_link (s : State) (k : StageIx) (f : Stage → Stage) : (s.modStage k f).link = s.link := rfl
@[simp] theorem State.modStage_portS (s : State) (k : StageIx) (f : Stage → Stage) : (s.modStage k f).portS = s.portS := rfl
@[simp] theorem State.modStage_portF (s : State) (k : StageIx) (f : Stage → Stage) : (s.modStage k f).portF = s.portF := rfl
@[simp] theorem State.modStage_preemptions (s : State) (k : StageIx) (f : Stage → Stage) : (s.modStage k f).preemptions = s.preemptions := rfl
@[simp] theorem State.modStage_repliesDropped (s : State) (k : StageIx) (f : Stage → Stage) : (s.modStage k f).repliesDropped = s.repliesDropped := rfl
@[simp] theorem State.modStage_noticesDropped (s : State) (k : StageIx) (f : Stage → Stage) : (s.modStage k f).noticesDropped = s.noticesDropped := rfl
@[simp] theorem State.modStage_map (s : State) (k : StageIx) (f : Stage → Stage) : (s.modStage k f).map = s.map := rfl
@[simp] theorem State.modStage_sources (s : State) (k : StageIx) (f : Stage → Stage) : (s.modStage k f).sources = s.sources := rfl
@[simp] theorem State.modStage_roles (s : State) (k : StageIx) (f : Stage → Stage) : (s.modStage k f).roles = s.roles := rfl
@[simp] theorem State.modStage_yardIx (s : State) (k : StageIx) (f : Stage → Stage) : (s.modStage k f).yardIx = s.yardIx := rfl
@[simp] theorem State.modStage_malformedSamples (s : State) (k : StageIx) (f : Stage → Stage) : (s.modStage k f).malformedSamples = s.malformedSamples := rfl
@[simp] theorem State.modStage_lateSamples (s : State) (k : StageIx) (f : Stage → Stage) : (s.modStage k f).lateSamples = s.lateSamples := rfl
@[simp] theorem State.modStage_mapOverflow (s : State) (k : StageIx) (f : Stage → Stage) : (s.modStage k f).mapOverflow = s.mapOverflow := rfl
@[simp] theorem State.modStage_tracker (s : State) (k : StageIx) (f : Stage → Stage) : (s.modStage k f).tracker = s.tracker := rfl
@[simp] theorem State.modStage_evals (s : State) (k : StageIx) (f : Stage → Stage) : (s.modStage k f).evals = s.evals := rfl
@[simp] theorem State.modStage_inService (s : State) (k : StageIx) (f : Stage → Stage) : (s.modStage k f).inService = s.inService := rfl
@[simp] theorem State.modStage_tickPhase (s : State) (k : StageIx) (f : Stage → Stage) : (s.modStage k f).tickPhase = s.tickPhase := rfl
@[simp] theorem State.modStage_malformedPositions (s : State) (k : StageIx) (f : Stage → Stage) : (s.modStage k f).malformedPositions = s.malformedPositions := rfl
@[simp] theorem State.modStage_queue (s : State) (k : StageIx) (f : Stage → Stage) : (s.modStage k f).queue = s.queue := rfl
@[simp] theorem State.modStage_tag (s : State) (k : StageIx) (f : Stage → Stage) : (s.modStage k f).tag = s.tag := rfl
@[simp] theorem State.modStage_lastClose (s : State) (k : StageIx) (f : Stage → Stage) : (s.modStage k f).lastClose = s.lastClose := rfl
@[simp] theorem State.modStage_setA (s : State) (k : StageIx) (f : Stage → Stage) : (s.modStage k f).setA = s.setA := rfl
@[simp] theorem State.modStage_setB (s : State) (k : StageIx) (f : Stage → Stage) : (s.modStage k f).setB = s.setB := rfl
@[simp] theorem State.modStage_phases (s : State) (k : StageIx) (f : Stage → Stage) : (s.modStage k f).phases = s.phases := rfl
@[simp] theorem State.modStage_vc (s : State) (k : StageIx) (f : Stage → Stage) : (s.modStage k f).vc = s.vc := rfl
@[simp] theorem State.modStage_table (s : State) (k : StageIx) (f : Stage → Stage) : (s.modStage k f).table = s.table := rfl
@[simp] theorem State.modStage_alarms (s : State) (k : StageIx) (f : Stage → Stage) : (s.modStage k f).alarms = s.alarms := rfl
@[simp] theorem State.modStage_cap (s : State) (k : StageIx) (f : Stage → Stage) : (s.modStage k f).cap = s.cap := rfl
@[simp] theorem State.modStage_fresh (s : State) (k : StageIx) (f : Stage → Stage) : (s.modStage k f).fresh = s.fresh := rfl
@[simp] theorem State.modStage_pending (s : State) (k : StageIx) (f : Stage → Stage) : (s.modStage k f).pending = s.pending := rfl

/-! ### `modRole` -/

@[simp] theorem State.modRole_held (s : State) (r : Role) (f : RoleState → RoleState) : (s.modRole r f).held = s.held := rfl
@[simp] theorem State.modRole_resetCause (s : State) (r : Role) (f : RoleState → RoleState) : (s.modRole r f).resetCause = s.resetCause := rfl
@[simp] theorem State.modRole_mode (s : State) (r : Role) (f : RoleState → RoleState) : (s.modRole r f).mode = s.mode := rfl
@[simp] theorem State.modRole_addr (s : State) (r : Role) (f : RoleState → RoleState) : (s.modRole r f).addr = s.addr := rfl
@[simp] theorem State.modRole_now (s : State) (r : Role) (f : RoleState → RoleState) : (s.modRole r f).now = s.now := rfl
@[simp] theorem State.modRole_clock (s : State) (r : Role) (f : RoleState → RoleState) : (s.modRole r f).clock = s.clock := rfl
@[simp] theorem State.modRole_recovery (s : State) (r : Role) (f : RoleState → RoleState) : (s.modRole r f).recovery = s.recovery := rfl
@[simp] theorem State.modRole_watchdog (s : State) (r : Role) (f : RoleState → RoleState) : (s.modRole r f).watchdog = s.watchdog := rfl
@[simp] theorem State.modRole_restartPending (s : State) (r : Role) (f : RoleState → RoleState) : (s.modRole r f).restartPending = s.restartPending := rfl
@[simp] theorem State.modRole_link (s : State) (r : Role) (f : RoleState → RoleState) : (s.modRole r f).link = s.link := rfl
@[simp] theorem State.modRole_portS (s : State) (r : Role) (f : RoleState → RoleState) : (s.modRole r f).portS = s.portS := rfl
@[simp] theorem State.modRole_portF (s : State) (r : Role) (f : RoleState → RoleState) : (s.modRole r f).portF = s.portF := rfl
@[simp] theorem State.modRole_preemptions (s : State) (r : Role) (f : RoleState → RoleState) : (s.modRole r f).preemptions = s.preemptions := rfl
@[simp] theorem State.modRole_repliesDropped (s : State) (r : Role) (f : RoleState → RoleState) : (s.modRole r f).repliesDropped = s.repliesDropped := rfl
@[simp] theorem State.modRole_noticesDropped (s : State) (r : Role) (f : RoleState → RoleState) : (s.modRole r f).noticesDropped = s.noticesDropped := rfl
@[simp] theorem State.modRole_map (s : State) (r : Role) (f : RoleState → RoleState) : (s.modRole r f).map = s.map := rfl
@[simp] theorem State.modRole_sources (s : State) (r : Role) (f : RoleState → RoleState) : (s.modRole r f).sources = s.sources := rfl
@[simp] theorem State.modRole_yardIx (s : State) (r : Role) (f : RoleState → RoleState) : (s.modRole r f).yardIx = s.yardIx := rfl
@[simp] theorem State.modRole_malformedSamples (s : State) (r : Role) (f : RoleState → RoleState) : (s.modRole r f).malformedSamples = s.malformedSamples := rfl
@[simp] theorem State.modRole_lateSamples (s : State) (r : Role) (f : RoleState → RoleState) : (s.modRole r f).lateSamples = s.lateSamples := rfl
@[simp] theorem State.modRole_mapOverflow (s : State) (r : Role) (f : RoleState → RoleState) : (s.modRole r f).mapOverflow = s.mapOverflow := rfl
@[simp] theorem State.modRole_tracker (s : State) (r : Role) (f : RoleState → RoleState) : (s.modRole r f).tracker = s.tracker := rfl
@[simp] theorem State.modRole_evals (s : State) (r : Role) (f : RoleState → RoleState) : (s.modRole r f).evals = s.evals := rfl
@[simp] theorem State.modRole_stages (s : State) (r : Role) (f : RoleState → RoleState) : (s.modRole r f).stages = s.stages := rfl
@[simp] theorem State.modRole_inService (s : State) (r : Role) (f : RoleState → RoleState) : (s.modRole r f).inService = s.inService := rfl
@[simp] theorem State.modRole_tickPhase (s : State) (r : Role) (f : RoleState → RoleState) : (s.modRole r f).tickPhase = s.tickPhase := rfl
@[simp] theorem State.modRole_malformedPositions (s : State) (r : Role) (f : RoleState → RoleState) : (s.modRole r f).malformedPositions = s.malformedPositions := rfl
@[simp] theorem State.modRole_queue (s : State) (r : Role) (f : RoleState → RoleState) : (s.modRole r f).queue = s.queue := rfl
@[simp] theorem State.modRole_tag (s : State) (r : Role) (f : RoleState → RoleState) : (s.modRole r f).tag = s.tag := rfl
@[simp] theorem State.modRole_lastClose (s : State) (r : Role) (f : RoleState → RoleState) : (s.modRole r f).lastClose = s.lastClose := rfl
@[simp] theorem State.modRole_setA (s : State) (r : Role) (f : RoleState → RoleState) : (s.modRole r f).setA = s.setA := rfl
@[simp] theorem State.modRole_setB (s : State) (r : Role) (f : RoleState → RoleState) : (s.modRole r f).setB = s.setB := rfl
@[simp] theorem State.modRole_phases (s : State) (r : Role) (f : RoleState → RoleState) : (s.modRole r f).phases = s.phases := rfl
@[simp] theorem State.modRole_vc (s : State) (r : Role) (f : RoleState → RoleState) : (s.modRole r f).vc = s.vc := rfl
@[simp] theorem State.modRole_table (s : State) (r : Role) (f : RoleState → RoleState) : (s.modRole r f).table = s.table := rfl
@[simp] theorem State.modRole_alarms (s : State) (r : Role) (f : RoleState → RoleState) : (s.modRole r f).alarms = s.alarms := rfl
@[simp] theorem State.modRole_cap (s : State) (r : Role) (f : RoleState → RoleState) : (s.modRole r f).cap = s.cap := rfl
@[simp] theorem State.modRole_fresh (s : State) (r : Role) (f : RoleState → RoleState) : (s.modRole r f).fresh = s.fresh := rfl
@[simp] theorem State.modRole_pending (s : State) (r : Role) (f : RoleState → RoleState) : (s.modRole r f).pending = s.pending := rfl

/-! ### `modEval` -/

@[simp] theorem State.modEval_held (s : State) (e : Element) (f : EvalState → EvalState) : (s.modEval e f).held = s.held := rfl
@[simp] theorem State.modEval_resetCause (s : State) (e : Element) (f : EvalState → EvalState) : (s.modEval e f).resetCause = s.resetCause := rfl
@[simp] theorem State.modEval_mode (s : State) (e : Element) (f : EvalState → EvalState) : (s.modEval e f).mode = s.mode := rfl
@[simp] theorem State.modEval_addr (s : State) (e : Element) (f : EvalState → EvalState) : (s.modEval e f).addr = s.addr := rfl
@[simp] theorem State.modEval_now (s : State) (e : Element) (f : EvalState → EvalState) : (s.modEval e f).now = s.now := rfl
@[simp] theorem State.modEval_clock (s : State) (e : Element) (f : EvalState → EvalState) : (s.modEval e f).clock = s.clock := rfl
@[simp] theorem State.modEval_recovery (s : State) (e : Element) (f : EvalState → EvalState) : (s.modEval e f).recovery = s.recovery := rfl
@[simp] theorem State.modEval_watchdog (s : State) (e : Element) (f : EvalState → EvalState) : (s.modEval e f).watchdog = s.watchdog := rfl
@[simp] theorem State.modEval_restartPending (s : State) (e : Element) (f : EvalState → EvalState) : (s.modEval e f).restartPending = s.restartPending := rfl
@[simp] theorem State.modEval_link (s : State) (e : Element) (f : EvalState → EvalState) : (s.modEval e f).link = s.link := rfl
@[simp] theorem State.modEval_portS (s : State) (e : Element) (f : EvalState → EvalState) : (s.modEval e f).portS = s.portS := rfl
@[simp] theorem State.modEval_portF (s : State) (e : Element) (f : EvalState → EvalState) : (s.modEval e f).portF = s.portF := rfl
@[simp] theorem State.modEval_preemptions (s : State) (e : Element) (f : EvalState → EvalState) : (s.modEval e f).preemptions = s.preemptions := rfl
@[simp] theorem State.modEval_repliesDropped (s : State) (e : Element) (f : EvalState → EvalState) : (s.modEval e f).repliesDropped = s.repliesDropped := rfl
@[simp] theorem State.modEval_noticesDropped (s : State) (e : Element) (f : EvalState → EvalState) : (s.modEval e f).noticesDropped = s.noticesDropped := rfl
@[simp] theorem State.modEval_map (s : State) (e : Element) (f : EvalState → EvalState) : (s.modEval e f).map = s.map := rfl
@[simp] theorem State.modEval_sources (s : State) (e : Element) (f : EvalState → EvalState) : (s.modEval e f).sources = s.sources := rfl
@[simp] theorem State.modEval_roles (s : State) (e : Element) (f : EvalState → EvalState) : (s.modEval e f).roles = s.roles := rfl
@[simp] theorem State.modEval_yardIx (s : State) (e : Element) (f : EvalState → EvalState) : (s.modEval e f).yardIx = s.yardIx := rfl
@[simp] theorem State.modEval_malformedSamples (s : State) (e : Element) (f : EvalState → EvalState) : (s.modEval e f).malformedSamples = s.malformedSamples := rfl
@[simp] theorem State.modEval_lateSamples (s : State) (e : Element) (f : EvalState → EvalState) : (s.modEval e f).lateSamples = s.lateSamples := rfl
@[simp] theorem State.modEval_mapOverflow (s : State) (e : Element) (f : EvalState → EvalState) : (s.modEval e f).mapOverflow = s.mapOverflow := rfl
@[simp] theorem State.modEval_tracker (s : State) (e : Element) (f : EvalState → EvalState) : (s.modEval e f).tracker = s.tracker := rfl
@[simp] theorem State.modEval_stages (s : State) (e : Element) (f : EvalState → EvalState) : (s.modEval e f).stages = s.stages := rfl
@[simp] theorem State.modEval_inService (s : State) (e : Element) (f : EvalState → EvalState) : (s.modEval e f).inService = s.inService := rfl
@[simp] theorem State.modEval_tickPhase (s : State) (e : Element) (f : EvalState → EvalState) : (s.modEval e f).tickPhase = s.tickPhase := rfl
@[simp] theorem State.modEval_malformedPositions (s : State) (e : Element) (f : EvalState → EvalState) : (s.modEval e f).malformedPositions = s.malformedPositions := rfl
@[simp] theorem State.modEval_queue (s : State) (e : Element) (f : EvalState → EvalState) : (s.modEval e f).queue = s.queue := rfl
@[simp] theorem State.modEval_tag (s : State) (e : Element) (f : EvalState → EvalState) : (s.modEval e f).tag = s.tag := rfl
@[simp] theorem State.modEval_lastClose (s : State) (e : Element) (f : EvalState → EvalState) : (s.modEval e f).lastClose = s.lastClose := rfl
@[simp] theorem State.modEval_setA (s : State) (e : Element) (f : EvalState → EvalState) : (s.modEval e f).setA = s.setA := rfl
@[simp] theorem State.modEval_setB (s : State) (e : Element) (f : EvalState → EvalState) : (s.modEval e f).setB = s.setB := rfl
@[simp] theorem State.modEval_phases (s : State) (e : Element) (f : EvalState → EvalState) : (s.modEval e f).phases = s.phases := rfl
@[simp] theorem State.modEval_vc (s : State) (e : Element) (f : EvalState → EvalState) : (s.modEval e f).vc = s.vc := rfl
@[simp] theorem State.modEval_table (s : State) (e : Element) (f : EvalState → EvalState) : (s.modEval e f).table = s.table := rfl
@[simp] theorem State.modEval_alarms (s : State) (e : Element) (f : EvalState → EvalState) : (s.modEval e f).alarms = s.alarms := rfl
@[simp] theorem State.modEval_cap (s : State) (e : Element) (f : EvalState → EvalState) : (s.modEval e f).cap = s.cap := rfl
@[simp] theorem State.modEval_fresh (s : State) (e : Element) (f : EvalState → EvalState) : (s.modEval e f).fresh = s.fresh := rfl
@[simp] theorem State.modEval_pending (s : State) (e : Element) (f : EvalState → EvalState) : (s.modEval e f).pending = s.pending := rfl

/-! ### `modVc` -/

@[simp] theorem State.modVc_held (s : State) (f : VoltageState → VoltageState) : (s.modVc f).held = s.held := rfl
@[simp] theorem State.modVc_resetCause (s : State) (f : VoltageState → VoltageState) : (s.modVc f).resetCause = s.resetCause := rfl
@[simp] theorem State.modVc_mode (s : State) (f : VoltageState → VoltageState) : (s.modVc f).mode = s.mode := rfl
@[simp] theorem State.modVc_addr (s : State) (f : VoltageState → VoltageState) : (s.modVc f).addr = s.addr := rfl
@[simp] theorem State.modVc_now (s : State) (f : VoltageState → VoltageState) : (s.modVc f).now = s.now := rfl
@[simp] theorem State.modVc_clock (s : State) (f : VoltageState → VoltageState) : (s.modVc f).clock = s.clock := rfl
@[simp] theorem State.modVc_recovery (s : State) (f : VoltageState → VoltageState) : (s.modVc f).recovery = s.recovery := rfl
@[simp] theorem State.modVc_watchdog (s : State) (f : VoltageState → VoltageState) : (s.modVc f).watchdog = s.watchdog := rfl
@[simp] theorem State.modVc_restartPending (s : State) (f : VoltageState → VoltageState) : (s.modVc f).restartPending = s.restartPending := rfl
@[simp] theorem State.modVc_link (s : State) (f : VoltageState → VoltageState) : (s.modVc f).link = s.link := rfl
@[simp] theorem State.modVc_portS (s : State) (f : VoltageState → VoltageState) : (s.modVc f).portS = s.portS := rfl
@[simp] theorem State.modVc_portF (s : State) (f : VoltageState → VoltageState) : (s.modVc f).portF = s.portF := rfl
@[simp] theorem State.modVc_preemptions (s : State) (f : VoltageState → VoltageState) : (s.modVc f).preemptions = s.preemptions := rfl
@[simp] theorem State.modVc_repliesDropped (s : State) (f : VoltageState → VoltageState) : (s.modVc f).repliesDropped = s.repliesDropped := rfl
@[simp] theorem State.modVc_noticesDropped (s : State) (f : VoltageState → VoltageState) : (s.modVc f).noticesDropped = s.noticesDropped := rfl
@[simp] theorem State.modVc_map (s : State) (f : VoltageState → VoltageState) : (s.modVc f).map = s.map := rfl
@[simp] theorem State.modVc_sources (s : State) (f : VoltageState → VoltageState) : (s.modVc f).sources = s.sources := rfl
@[simp] theorem State.modVc_roles (s : State) (f : VoltageState → VoltageState) : (s.modVc f).roles = s.roles := rfl
@[simp] theorem State.modVc_yardIx (s : State) (f : VoltageState → VoltageState) : (s.modVc f).yardIx = s.yardIx := rfl
@[simp] theorem State.modVc_malformedSamples (s : State) (f : VoltageState → VoltageState) : (s.modVc f).malformedSamples = s.malformedSamples := rfl
@[simp] theorem State.modVc_lateSamples (s : State) (f : VoltageState → VoltageState) : (s.modVc f).lateSamples = s.lateSamples := rfl
@[simp] theorem State.modVc_mapOverflow (s : State) (f : VoltageState → VoltageState) : (s.modVc f).mapOverflow = s.mapOverflow := rfl
@[simp] theorem State.modVc_tracker (s : State) (f : VoltageState → VoltageState) : (s.modVc f).tracker = s.tracker := rfl
@[simp] theorem State.modVc_evals (s : State) (f : VoltageState → VoltageState) : (s.modVc f).evals = s.evals := rfl
@[simp] theorem State.modVc_stages (s : State) (f : VoltageState → VoltageState) : (s.modVc f).stages = s.stages := rfl
@[simp] theorem State.modVc_inService (s : State) (f : VoltageState → VoltageState) : (s.modVc f).inService = s.inService := rfl
@[simp] theorem State.modVc_tickPhase (s : State) (f : VoltageState → VoltageState) : (s.modVc f).tickPhase = s.tickPhase := rfl
@[simp] theorem State.modVc_malformedPositions (s : State) (f : VoltageState → VoltageState) : (s.modVc f).malformedPositions = s.malformedPositions := rfl
@[simp] theorem State.modVc_queue (s : State) (f : VoltageState → VoltageState) : (s.modVc f).queue = s.queue := rfl
@[simp] theorem State.modVc_tag (s : State) (f : VoltageState → VoltageState) : (s.modVc f).tag = s.tag := rfl
@[simp] theorem State.modVc_lastClose (s : State) (f : VoltageState → VoltageState) : (s.modVc f).lastClose = s.lastClose := rfl
@[simp] theorem State.modVc_setA (s : State) (f : VoltageState → VoltageState) : (s.modVc f).setA = s.setA := rfl
@[simp] theorem State.modVc_setB (s : State) (f : VoltageState → VoltageState) : (s.modVc f).setB = s.setB := rfl
@[simp] theorem State.modVc_phases (s : State) (f : VoltageState → VoltageState) : (s.modVc f).phases = s.phases := rfl
@[simp] theorem State.modVc_table (s : State) (f : VoltageState → VoltageState) : (s.modVc f).table = s.table := rfl
@[simp] theorem State.modVc_alarms (s : State) (f : VoltageState → VoltageState) : (s.modVc f).alarms = s.alarms := rfl
@[simp] theorem State.modVc_cap (s : State) (f : VoltageState → VoltageState) : (s.modVc f).cap = s.cap := rfl
@[simp] theorem State.modVc_fresh (s : State) (f : VoltageState → VoltageState) : (s.modVc f).fresh = s.fresh := rfl
@[simp] theorem State.modVc_pending (s : State) (f : VoltageState → VoltageState) : (s.modVc f).pending = s.pending := rfl

@[simp] theorem State.modVc_vc (s : State) (f : VoltageState → VoltageState) : (s.modVc f).vc = f s.vc := rfl

/-! ### `modQuantity` -/

@[simp] theorem State.modQuantity_held (s : State) (p : Phase) (q : Option Nat) (f : QuantityState → QuantityState) : (s.modQuantity p q f).held = s.held := rfl
@[simp] theorem State.modQuantity_resetCause (s : State) (p : Phase) (q : Option Nat) (f : QuantityState → QuantityState) : (s.modQuantity p q f).resetCause = s.resetCause := rfl
@[simp] theorem State.modQuantity_mode (s : State) (p : Phase) (q : Option Nat) (f : QuantityState → QuantityState) : (s.modQuantity p q f).mode = s.mode := rfl
@[simp] theorem State.modQuantity_addr (s : State) (p : Phase) (q : Option Nat) (f : QuantityState → QuantityState) : (s.modQuantity p q f).addr = s.addr := rfl
@[simp] theorem State.modQuantity_now (s : State) (p : Phase) (q : Option Nat) (f : QuantityState → QuantityState) : (s.modQuantity p q f).now = s.now := rfl
@[simp] theorem State.modQuantity_clock (s : State) (p : Phase) (q : Option Nat) (f : QuantityState → QuantityState) : (s.modQuantity p q f).clock = s.clock := rfl
@[simp] theorem State.modQuantity_recovery (s : State) (p : Phase) (q : Option Nat) (f : QuantityState → QuantityState) : (s.modQuantity p q f).recovery = s.recovery := rfl
@[simp] theorem State.modQuantity_watchdog (s : State) (p : Phase) (q : Option Nat) (f : QuantityState → QuantityState) : (s.modQuantity p q f).watchdog = s.watchdog := rfl
@[simp] theorem State.modQuantity_restartPending (s : State) (p : Phase) (q : Option Nat) (f : QuantityState → QuantityState) : (s.modQuantity p q f).restartPending = s.restartPending := rfl
@[simp] theorem State.modQuantity_link (s : State) (p : Phase) (q : Option Nat) (f : QuantityState → QuantityState) : (s.modQuantity p q f).link = s.link := rfl
@[simp] theorem State.modQuantity_portS (s : State) (p : Phase) (q : Option Nat) (f : QuantityState → QuantityState) : (s.modQuantity p q f).portS = s.portS := rfl
@[simp] theorem State.modQuantity_portF (s : State) (p : Phase) (q : Option Nat) (f : QuantityState → QuantityState) : (s.modQuantity p q f).portF = s.portF := rfl
@[simp] theorem State.modQuantity_preemptions (s : State) (p : Phase) (q : Option Nat) (f : QuantityState → QuantityState) : (s.modQuantity p q f).preemptions = s.preemptions := rfl
@[simp] theorem State.modQuantity_repliesDropped (s : State) (p : Phase) (q : Option Nat) (f : QuantityState → QuantityState) : (s.modQuantity p q f).repliesDropped = s.repliesDropped := rfl
@[simp] theorem State.modQuantity_noticesDropped (s : State) (p : Phase) (q : Option Nat) (f : QuantityState → QuantityState) : (s.modQuantity p q f).noticesDropped = s.noticesDropped := rfl
@[simp] theorem State.modQuantity_map (s : State) (p : Phase) (q : Option Nat) (f : QuantityState → QuantityState) : (s.modQuantity p q f).map = s.map := rfl
@[simp] theorem State.modQuantity_sources (s : State) (p : Phase) (q : Option Nat) (f : QuantityState → QuantityState) : (s.modQuantity p q f).sources = s.sources := rfl
@[simp] theorem State.modQuantity_roles (s : State) (p : Phase) (q : Option Nat) (f : QuantityState → QuantityState) : (s.modQuantity p q f).roles = s.roles := rfl
@[simp] theorem State.modQuantity_yardIx (s : State) (p : Phase) (q : Option Nat) (f : QuantityState → QuantityState) : (s.modQuantity p q f).yardIx = s.yardIx := rfl
@[simp] theorem State.modQuantity_malformedSamples (s : State) (p : Phase) (q : Option Nat) (f : QuantityState → QuantityState) : (s.modQuantity p q f).malformedSamples = s.malformedSamples := rfl
@[simp] theorem State.modQuantity_lateSamples (s : State) (p : Phase) (q : Option Nat) (f : QuantityState → QuantityState) : (s.modQuantity p q f).lateSamples = s.lateSamples := rfl
@[simp] theorem State.modQuantity_mapOverflow (s : State) (p : Phase) (q : Option Nat) (f : QuantityState → QuantityState) : (s.modQuantity p q f).mapOverflow = s.mapOverflow := rfl
@[simp] theorem State.modQuantity_tracker (s : State) (p : Phase) (q : Option Nat) (f : QuantityState → QuantityState) : (s.modQuantity p q f).tracker = s.tracker := rfl
@[simp] theorem State.modQuantity_evals (s : State) (p : Phase) (q : Option Nat) (f : QuantityState → QuantityState) : (s.modQuantity p q f).evals = s.evals := rfl
@[simp] theorem State.modQuantity_stages (s : State) (p : Phase) (q : Option Nat) (f : QuantityState → QuantityState) : (s.modQuantity p q f).stages = s.stages := rfl
@[simp] theorem State.modQuantity_inService (s : State) (p : Phase) (q : Option Nat) (f : QuantityState → QuantityState) : (s.modQuantity p q f).inService = s.inService := rfl
@[simp] theorem State.modQuantity_tickPhase (s : State) (p : Phase) (q : Option Nat) (f : QuantityState → QuantityState) : (s.modQuantity p q f).tickPhase = s.tickPhase := rfl
@[simp] theorem State.modQuantity_malformedPositions (s : State) (p : Phase) (q : Option Nat) (f : QuantityState → QuantityState) : (s.modQuantity p q f).malformedPositions = s.malformedPositions := rfl
@[simp] theorem State.modQuantity_queue (s : State) (p : Phase) (q : Option Nat) (f : QuantityState → QuantityState) : (s.modQuantity p q f).queue = s.queue := rfl
@[simp] theorem State.modQuantity_tag (s : State) (p : Phase) (q : Option Nat) (f : QuantityState → QuantityState) : (s.modQuantity p q f).tag = s.tag := rfl
@[simp] theorem State.modQuantity_lastClose (s : State) (p : Phase) (q : Option Nat) (f : QuantityState → QuantityState) : (s.modQuantity p q f).lastClose = s.lastClose := rfl
@[simp] theorem State.modQuantity_setA (s : State) (p : Phase) (q : Option Nat) (f : QuantityState → QuantityState) : (s.modQuantity p q f).setA = s.setA := rfl
@[simp] theorem State.modQuantity_setB (s : State) (p : Phase) (q : Option Nat) (f : QuantityState → QuantityState) : (s.modQuantity p q f).setB = s.setB := rfl
@[simp] theorem State.modQuantity_phases (s : State) (p : Phase) (q : Option Nat) (f : QuantityState → QuantityState) : (s.modQuantity p q f).phases = s.phases := rfl
@[simp] theorem State.modQuantity_vc (s : State) (p : Phase) (q : Option Nat) (f : QuantityState → QuantityState) : (s.modQuantity p q f).vc = s.vc := rfl
@[simp] theorem State.modQuantity_table (s : State) (p : Phase) (q : Option Nat) (f : QuantityState → QuantityState) : (s.modQuantity p q f).table = s.table := rfl
@[simp] theorem State.modQuantity_cap (s : State) (p : Phase) (q : Option Nat) (f : QuantityState → QuantityState) : (s.modQuantity p q f).cap = s.cap := rfl
@[simp] theorem State.modQuantity_fresh (s : State) (p : Phase) (q : Option Nat) (f : QuantityState → QuantityState) : (s.modQuantity p q f).fresh = s.fresh := rfl
@[simp] theorem State.modQuantity_pending (s : State) (p : Phase) (q : Option Nat) (f : QuantityState → QuantityState) : (s.modQuantity p q f).pending = s.pending := rfl

/-! ### `modSource` -/

@[simp] theorem State.modSource_held (s : State) (a : Byte) (f : Source → Source) : (s.modSource a f).held = s.held := rfl
@[simp] theorem State.modSource_resetCause (s : State) (a : Byte) (f : Source → Source) : (s.modSource a f).resetCause = s.resetCause := rfl
@[simp] theorem State.modSource_mode (s : State) (a : Byte) (f : Source → Source) : (s.modSource a f).mode = s.mode := rfl
@[simp] theorem State.modSource_addr (s : State) (a : Byte) (f : Source → Source) : (s.modSource a f).addr = s.addr := rfl
@[simp] theorem State.modSource_now (s : State) (a : Byte) (f : Source → Source) : (s.modSource a f).now = s.now := rfl
@[simp] theorem State.modSource_clock (s : State) (a : Byte) (f : Source → Source) : (s.modSource a f).clock = s.clock := rfl
@[simp] theorem State.modSource_recovery (s : State) (a : Byte) (f : Source → Source) : (s.modSource a f).recovery = s.recovery := rfl
@[simp] theorem State.modSource_watchdog (s : State) (a : Byte) (f : Source → Source) : (s.modSource a f).watchdog = s.watchdog := rfl
@[simp] theorem State.modSource_restartPending (s : State) (a : Byte) (f : Source → Source) : (s.modSource a f).restartPending = s.restartPending := rfl
@[simp] theorem State.modSource_link (s : State) (a : Byte) (f : Source → Source) : (s.modSource a f).link = s.link := rfl
@[simp] theorem State.modSource_portS (s : State) (a : Byte) (f : Source → Source) : (s.modSource a f).portS = s.portS := rfl
@[simp] theorem State.modSource_portF (s : State) (a : Byte) (f : Source → Source) : (s.modSource a f).portF = s.portF := rfl
@[simp] theorem State.modSource_preemptions (s : State) (a : Byte) (f : Source → Source) : (s.modSource a f).preemptions = s.preemptions := rfl
@[simp] theorem State.modSource_repliesDropped (s : State) (a : Byte) (f : Source → Source) : (s.modSource a f).repliesDropped = s.repliesDropped := rfl
@[simp] theorem State.modSource_noticesDropped (s : State) (a : Byte) (f : Source → Source) : (s.modSource a f).noticesDropped = s.noticesDropped := rfl
@[simp] theorem State.modSource_map (s : State) (a : Byte) (f : Source → Source) : (s.modSource a f).map = s.map := rfl
@[simp] theorem State.modSource_roles (s : State) (a : Byte) (f : Source → Source) : (s.modSource a f).roles = s.roles := rfl
@[simp] theorem State.modSource_yardIx (s : State) (a : Byte) (f : Source → Source) : (s.modSource a f).yardIx = s.yardIx := rfl
@[simp] theorem State.modSource_malformedSamples (s : State) (a : Byte) (f : Source → Source) : (s.modSource a f).malformedSamples = s.malformedSamples := rfl
@[simp] theorem State.modSource_lateSamples (s : State) (a : Byte) (f : Source → Source) : (s.modSource a f).lateSamples = s.lateSamples := rfl
@[simp] theorem State.modSource_mapOverflow (s : State) (a : Byte) (f : Source → Source) : (s.modSource a f).mapOverflow = s.mapOverflow := rfl
@[simp] theorem State.modSource_tracker (s : State) (a : Byte) (f : Source → Source) : (s.modSource a f).tracker = s.tracker := rfl
@[simp] theorem State.modSource_evals (s : State) (a : Byte) (f : Source → Source) : (s.modSource a f).evals = s.evals := rfl
@[simp] theorem State.modSource_stages (s : State) (a : Byte) (f : Source → Source) : (s.modSource a f).stages = s.stages := rfl
@[simp] theorem State.modSource_inService (s : State) (a : Byte) (f : Source → Source) : (s.modSource a f).inService = s.inService := rfl
@[simp] theorem State.modSource_tickPhase (s : State) (a : Byte) (f : Source → Source) : (s.modSource a f).tickPhase = s.tickPhase := rfl
@[simp] theorem State.modSource_malformedPositions (s : State) (a : Byte) (f : Source → Source) : (s.modSource a f).malformedPositions = s.malformedPositions := rfl
@[simp] theorem State.modSource_queue (s : State) (a : Byte) (f : Source → Source) : (s.modSource a f).queue = s.queue := rfl
@[simp] theorem State.modSource_tag (s : State) (a : Byte) (f : Source → Source) : (s.modSource a f).tag = s.tag := rfl
@[simp] theorem State.modSource_lastClose (s : State) (a : Byte) (f : Source → Source) : (s.modSource a f).lastClose = s.lastClose := rfl
@[simp] theorem State.modSource_setA (s : State) (a : Byte) (f : Source → Source) : (s.modSource a f).setA = s.setA := rfl
@[simp] theorem State.modSource_setB (s : State) (a : Byte) (f : Source → Source) : (s.modSource a f).setB = s.setB := rfl
@[simp] theorem State.modSource_phases (s : State) (a : Byte) (f : Source → Source) : (s.modSource a f).phases = s.phases := rfl
@[simp] theorem State.modSource_vc (s : State) (a : Byte) (f : Source → Source) : (s.modSource a f).vc = s.vc := rfl
@[simp] theorem State.modSource_table (s : State) (a : Byte) (f : Source → Source) : (s.modSource a f).table = s.table := rfl
@[simp] theorem State.modSource_alarms (s : State) (a : Byte) (f : Source → Source) : (s.modSource a f).alarms = s.alarms := rfl
@[simp] theorem State.modSource_cap (s : State) (a : Byte) (f : Source → Source) : (s.modSource a f).cap = s.cap := rfl
@[simp] theorem State.modSource_fresh (s : State) (a : Byte) (f : Source → Source) : (s.modSource a f).fresh = s.fresh := rfl
@[simp] theorem State.modSource_pending (s : State) (a : Byte) (f : Source → Source) : (s.modSource a f).pending = s.pending := rfl

/-! ### A lost stage -/

@[simp] theorem lostStage_state (a : Stage) : (lostStage a).state = .failed := rfl
@[simp] theorem lostStage_awaiting (a : Stage) : (lostStage a).awaiting = false := rfl
@[simp] theorem lostStage_lockoutPending (a : Stage) : (lostStage a).lockoutPending = lockoutKeeps a := rfl
@[simp] theorem lostStage_inFlight (a : Stage) : (lostStage a).inFlight = a.inFlight := rfl
@[simp] theorem lostStage_cfg (a : Stage) : (lostStage a).cfg = a.cfg := rfl
@[simp] theorem lostStage_reported (a : Stage) : (lostStage a).reported = a.reported := rfl
@[simp] theorem lostStage_cooling (a : Stage) : (lostStage a).cooling = a.cooling := rfl

end Sys2Proof.Machine
end

