-- ==== Sys2Proof/Laws/Access.lean ====
section
/-! SUPPORT. Reading after writing the indexed parts of the state: stages, roles, elements, phases. -/

namespace Sys2Proof.Machine

/-! ### Indices -/

theorem roleIx_injective {r q : Role} (h : roleIx r = roleIx q) : r = q := by
  have h' := congrArg Fin.val h
  have hp : ∀ p : Phase, phaseCode p ≤ 2 := fun p => by cases p <;> decide
  have hi : ∀ p o : Phase, phaseCode p = phaseCode o → p = o := fun p o => by cases p <;> cases o <;> decide
  cases r <;> cases q <;> simp only [roleIx] at h'
  · exact congrArg _ (hi _ _ h')
  · rename_i p k; have := hp p; omega
  · rename_i p k; have := hp p; omega
  · rename_i k p; have := hp p; omega
  · exact congrArg _ (Fin.ext (by omega))
  · omega
  · rename_i k p; have := hp p; omega
  · omega
  · exact congrArg _ (Fin.ext (by omega))

theorem elementIx_injective {e g : Element} (h : elementIx e = elementIx g) : e = g := by
  have h' := congrArg Fin.val h
  have hp : ∀ p : Phase, phaseCode p ≤ 2 := fun p => by cases p <;> decide
  have hi : ∀ p o : Phase, phaseCode p = phaseCode o → p = o := fun p o => by cases p <;> cases o <;> decide
  cases e <;> cases g <;> simp only [elementIx] at h'
  · rfl
  · omega
  · omega
  · omega
  · simp at h'
  · exact congrArg _ (Fin.ext (by omega))
  · rename_i k p; have := hp p; omega
  · omega
  · simp at h'
  · rename_i p k; have := hp p; omega
  · exact congrArg _ (hi _ _ (by omega))
  · rename_i p k; have := hp p; omega
  · simp at h'
  · omega
  · rename_i k p; have := hp p; omega
  · exact congrArg _ (Fin.ext (by omega))

theorem phaseIx_injective {p q : Phase} (h : phaseIx p = phaseIx q) : p = q := by
  revert h; cases p <;> cases q <;> decide

/-! ### Stages -/

@[simp] theorem State.modStage_stage (s : State) (k : StageIx) (f : Stage → Stage) :
    (s.modStage k f).stage k = f (s.stage k) := by simp [State.stage, State.modStage]

theorem State.modStage_stage_ne (s : State) {k j : StageIx} (f : Stage → Stage) (h : j ≠ k) :
    (s.modStage k f).stage j = s.stage j := by
  have h' : ¬ (k : Nat) = j := fun e => h (Fin.ext e.symm)
  simp [State.stage, State.modStage, h']

/-- Equal records stored back change nothing. -/
theorem State.modStage_self (s : State) (k : StageIx) {f : Stage → Stage} (h : f (s.stage k) = s.stage k) :
    s.modStage k f = s := by
  have : s.stages.set k (f s.stages[k]) = s.stages := by
    have h' : f s.stages[k] = s.stages[k] := h
    rw [h']; exact Vector.set_getElem_self _
  simp only [State.modStage, this]

/-! ### Roles and elements -/

@[simp] theorem State.modRole_role (s : State) (r : Role) (f : RoleState → RoleState) :
    (s.modRole r f).role r = f (s.role r) := by simp [State.role, State.modRole]

theorem State.modRole_role_ne (s : State) {r q : Role} (f : RoleState → RoleState) (h : q ≠ r) :
    (s.modRole r f).role q = s.role q := by
  have h' : ¬ (roleIx r : Nat) = roleIx q := fun e => h (roleIx_injective (Fin.ext e)).symm
  simp [State.role, State.modRole, h']

@[simp] theorem State.modEval_eval (s : State) (e : Element) (f : EvalState → EvalState) :
    (s.modEval e f).eval e = f (s.eval e) := by simp [State.eval, State.modEval]

theorem State.modEval_eval_ne (s : State) {e g : Element} (f : EvalState → EvalState) (h : g ≠ e) :
    (s.modEval e f).eval g = s.eval g := by
  have h' : ¬ (elementIx e : Nat) = elementIx g := fun x => h (elementIx_injective (Fin.ext x)).symm
  simp [State.eval, State.modEval, h']

/-! ### Stage indices -/

/-- The byte of a stage index names that stage. -/
theorem stageOfByte_of_val {b : Byte} {k : StageIx} (h : b.toNat = k.val) : stageOfByte b = some k := by
  have hb : b.toNat < 24 := by omega
  rw [stageOfByte, dif_pos hb]
  exact congrArg some (Fin.ext h)

/-- A byte above 23 names no stage. -/
theorem stageOfByte_of_large {b : Byte} (h : 23 < b.toNat) : stageOfByte b = none := by
  simp only [stageOfByte, dif_neg (show ¬ b.toNat < 24 by omega)]

theorem mem_allStages (k : StageIx) : k ∈ allStages := List.mem_finRange k

theorem allStages_nodup : allStages.Nodup := List.nodup_finRange 24

end Sys2Proof.Machine
end

