-- ==== Sys2Proof/Laws/Frames.lean ====
section
/-! SUPPORT. What the notice builder, the supervisor and capture can touch: each operation keeps to one of the frames
`onlyNoticed` and `onlySwitched`, which compose. -/

namespace Sys2Proof.Machine

/-! ### The frames as equations that can be substituted -/

theorem onlyNoticed_iff {s t : State} : onlyNoticed s t ↔ ∃ ins seq n,
    t = { s with portS := { s.portS with ins := ins, seq := seq }, noticesDropped := n } :=
  ⟨fun h => ⟨_, _, _, h⟩, by rintro ⟨_, _, _, rfl⟩; rfl⟩

theorem onlySwitched_iff {s t : State} : onlySwitched s t ↔ ∃ ins seq portF pre n stages queue tag last cap,
    t = { s with
      portS := { s.portS with ins := ins, seq := seq }
      portF := portF, preemptions := pre, noticesDropped := n, stages := stages, queue := queue, tag := tag
      lastClose := last, cap := cap } :=
  ⟨fun h => ⟨_, _, _, _, _, _, _, _, _, _, h⟩, by rintro ⟨_, _, _, _, _, _, _, _, _, _, rfl⟩; rfl⟩

theorem onlyEvaluated_iff {s t : State} : onlyEvaluated s t ↔
    ∃ ins seq portF pre n stages queue tag last cap roles tracker evals vc alarms,
    t = { s with
      portS := { s.portS with ins := ins, seq := seq }
      portF := portF, preemptions := pre, noticesDropped := n, stages := stages, queue := queue, tag := tag
      lastClose := last, cap := cap, roles := roles, tracker := tracker, evals := evals, vc := vc, alarms := alarms } :=
  ⟨fun h => ⟨_, _, _, _, _, _, _, _, _, _, _, _, _, _, _, h⟩,
    by rintro ⟨_, _, _, _, _, _, _, _, _, _, _, _, _, _, _, rfl⟩; rfl⟩

theorem onlyNoticed_refl (s : State) : onlyNoticed s s := rfl

theorem onlySwitched_refl (s : State) : onlySwitched s s := rfl

theorem onlyEvaluated_refl (s : State) : onlyEvaluated s s := rfl

theorem onlyNoticed_trans {s t u : State} (h : onlyNoticed s t) (g : onlyNoticed t u) : onlyNoticed s u := by
  obtain ⟨_, _, _, rfl⟩ := onlyNoticed_iff.1 h
  obtain ⟨_, _, _, rfl⟩ := onlyNoticed_iff.1 g
  rfl

theorem onlySwitched_trans {s t u : State} (h : onlySwitched s t) (g : onlySwitched t u) : onlySwitched s u := by
  obtain ⟨_, _, _, _, _, _, _, _, _, _, rfl⟩ := onlySwitched_iff.1 h
  obtain ⟨_, _, _, _, _, _, _, _, _, _, rfl⟩ := onlySwitched_iff.1 g
  rfl

theorem onlyEvaluated_trans {s t u : State} (h : onlyEvaluated s t) (g : onlyEvaluated t u) : onlyEvaluated s u := by
  obtain ⟨_, _, _, _, _, _, _, _, _, _, _, _, _, _, _, rfl⟩ := onlyEvaluated_iff.1 h
  obtain ⟨_, _, _, _, _, _, _, _, _, _, _, _, _, _, _, rfl⟩ := onlyEvaluated_iff.1 g
  rfl

/-- Notices are among what switching touches. -/
theorem onlySwitched_of_noticed {s t : State} (h : onlyNoticed s t) : onlySwitched s t := by
  obtain ⟨_, _, _, rfl⟩ := onlyNoticed_iff.1 h
  rfl

/-- Switching is among what evaluation touches. -/
theorem onlyEvaluated_of_switched {s t : State} (h : onlySwitched s t) : onlyEvaluated s t := by
  obtain ⟨_, _, _, _, _, _, _, _, _, _, rfl⟩ := onlySwitched_iff.1 h
  rfl

/-- A change of the stage records followed by notices. -/
theorem onlySwitched_of_stages {s t : State} {v : Vector Stage 24} (h : onlyNoticed { s with stages := v } t) :
    onlySwitched s t := onlySwitched_trans (t := { s with stages := v }) rfl (onlySwitched_of_noticed h)

theorem modStage_switched (s : State) (k : StageIx) (f : Stage → Stage) : onlySwitched s (s.modStage k f) := rfl

/-! ### Notices and stage changes -/

/-- A notice enters the up insert queue or is counted as dropped, and touches nothing else. -/
theorem notice_only (s : State) (n : Notice) : onlyNoticed s (s.notice n) := by
  unfold State.notice State.enterUp State.countUpDrop
  split
  · rfl
  · split <;> rfl

theorem notice_switched (s : State) (n : Notice) : onlySwitched s (s.notice n) := onlySwitched_of_noticed (notice_only s n)

@[simp] theorem notice_stage (s : State) (n : Notice) (k : StageIx) : (s.notice n).stage k = s.stage k := by
  rw [notice_only s n]; rfl

@[simp] theorem notice_queue (s : State) (n : Notice) : (s.notice n).queue = s.queue := by rw [notice_only s n]

@[simp] theorem notice_mode (s : State) (n : Notice) : (s.notice n).mode = s.mode := by rw [notice_only s n]

@[simp] theorem notice_now (s : State) (n : Notice) : (s.notice n).now = s.now := by rw [notice_only s n]

@[simp] theorem notice_cap (s : State) (n : Notice) : (s.notice n).cap = s.cap := by rw [notice_only s n]

@[simp] theorem notice_vc (s : State) (n : Notice) : (s.notice n).vc = s.vc := by rw [notice_only s n]

@[simp] theorem notice_map (s : State) (n : Notice) : (s.notice n).map = s.map := by rw [notice_only s n]

@[simp] theorem notice_link (s : State) (n : Notice) : (s.notice n).link = s.link := by rw [notice_only s n]

@[simp] theorem notice_inService (s : State) (n : Notice) : (s.notice n).inService = s.inService := by rw [notice_only s n]

/-- A change of a stage record is that change and at most one notice. -/
theorem changeStage_only (s : State) (k : StageIx) (f : Stage → Stage) :
    onlyNoticed { s with stages := s.stages.set k (f (s.stage k)) } (s.changeStage k f) := by
  unfold State.changeStage
  dsimp only
  split
  · rfl
  · exact notice_only _ _

theorem changeStage_switched (s : State) (k : StageIx) (f : Stage → Stage) : onlySwitched s (s.changeStage k f) :=
  onlySwitched_of_stages (changeStage_only s k f)

@[simp] theorem changeStage_stage (s : State) (k : StageIx) (f : Stage → Stage) :
    (s.changeStage k f).stage k = f (s.stage k) := by
  rw [changeStage_only s k f]; exact State.modStage_stage s k f

theorem changeStage_stage_ne (s : State) {k j : StageIx} (f : Stage → Stage) (h : j ≠ k) :
    (s.changeStage k f).stage j = s.stage j := by
  rw [changeStage_only s k f]; exact State.modStage_stage_ne s f h

@[simp] theorem changeStage_queue (s : State) (k : StageIx) (f : Stage → Stage) : (s.changeStage k f).queue = s.queue := by
  rw [changeStage_only s k f]

/-! ### The supervisor -/

theorem dropEntry_only (s : State) (e : QueueEntry) (r : DropReason) :
    onlyNoticed { s with queue := s.queue.filter fun x => x.stage ≠ e.stage } (s.dropEntry e r) := notice_only _ _

theorem dropEntry_switched (s : State) (e : QueueEntry) (r : DropReason) : onlySwitched s (s.dropEntry e r) :=
  onlySwitched_trans (t := { s with queue := s.queue.filter fun x => x.stage ≠ e.stage }) rfl
    (onlySwitched_of_noticed (dropEntry_only s e r))

@[simp] theorem dropEntry_stage (s : State) (e : QueueEntry) (r : DropReason) (k : StageIx) :
    (s.dropEntry e r).stage k = s.stage k := by rw [dropEntry_only s e r]; rfl

@[simp] theorem dropEntry_queue (s : State) (e : QueueEntry) (r : DropReason) :
    (s.dropEntry e r).queue = s.queue.filter fun x => x.stage ≠ e.stage := by rw [dropEntry_only s e r]

/-- A COMMAND frame that enters the down insert queue touches port F and the counter of preemptions. -/
theorem enterDown_only (s : State) (c : CmdClass) (d : Byte) (p : List Byte) :
    s.enterDown c d p = { s with portF := (s.enterDown c d p).portF, preemptions := (s.enterDown c d p).preemptions } := by
  unfold State.enterDown State.preempt
  split
  · rfl
  · split
    · dsimp only
      split
      · split <;> rfl
      · rfl
    · rfl

theorem enterDown_switched (s : State) (c : CmdClass) (d : Byte) (p : List Byte) : onlySwitched s (s.enterDown c d p) := by
  rw [onlySwitched, enterDown_only]

@[simp] theorem enterDown_stage (s : State) (c : CmdClass) (d : Byte) (p : List Byte) (k : StageIx) :
    (s.enterDown c d p).stage k = s.stage k := by rw [enterDown_only]; rfl

@[simp] theorem enterDown_queue (s : State) (c : CmdClass) (d : Byte) (p : List Byte) :
    (s.enterDown c d p).queue = s.queue := by rw [enterDown_only]

theorem sendEntry_switched (s : State) (e : QueueEntry) : onlySwitched s (s.sendEntry e) := by
  unfold State.sendEntry
  dsimp only
  refine onlySwitched_trans (onlySwitched_trans ?_ (changeStage_switched _ _ _)) (enterDown_switched _ _ _ _)
  rfl

/-- Sending an entry sets the record of its stage as R95 states, and no other record. -/
theorem sendEntry_stage (s : State) (e : QueueEntry) : (s.sendEntry e).stage e.stage = sendStage s e (s.stage e.stage) := by
  unfold State.sendEntry; simp; rfl

theorem sendEntry_stage_ne (s : State) (e : QueueEntry) {j : StageIx} (h : j ≠ e.stage) :
    (s.sendEntry e).stage j = s.stage j := by
  unfold State.sendEntry; simp [changeStage_stage_ne _ _ h]; rfl

/-- Sending an entry takes the entries of its stage out of the queue. -/
theorem sendEntry_queue (s : State) (e : QueueEntry) :
    (s.sendEntry e).queue = s.queue.filter fun x => x.stage ≠ e.stage := by
  unfold State.sendEntry; simp

theorem normalEntry_switched (es : List QueueEntry) : ∀ s : State, onlySwitched s (s.normalEntry es).1 := by
  induction es with
  | nil => exact fun s => rfl
  | cons e es ih =>
    intro s
    unfold State.normalEntry
    split
    · exact ih s
    · split
      · rfl
      · split
        · exact onlySwitched_trans (dropEntry_switched s e .notReady) (ih _)
        · split
          · rfl
          · exact ih s

theorem select_switched (n : Nat) : ∀ s : State, onlySwitched s (State.select n s) := by
  induction n with
  | zero => exact fun s => rfl
  | succ n ih =>
    intro s
    unfold State.select
    split
    · rfl
    · split
      · exact onlySwitched_trans (sendEntry_switched s _) (ih _)
      · have h := normalEntry_switched s.queue s
        split
        · next s' e heq =>
          rw [heq] at h
          exact onlySwitched_trans (onlySwitched_trans h (sendEntry_switched s' e)) (ih _)
        · next s' heq => rw [heq] at h; exact h

theorem selection_switched (s : State) : onlySwitched s s.selection := select_switched _ s

theorem gatherFresh_switched (s : State) (k : StageIx) (op : Operation) (c : CmdClass) (o : Origin) :
    onlySwitched s (s.gatherFresh k op c o).1 := by
  unfold State.gatherFresh
  split
  · rfl
  · split
    · rfl
    · split
      · rfl
      · exact onlySwitched_trans (t := { s with queue := s.queue ++ [⟨k, op, c, o, s.now⟩] }) rfl (selection_switched _)

theorem gather_switched (s : State) (k : StageIx) (op : Operation) (c : CmdClass) (o : Origin) :
    onlySwitched s (s.gather k op c o).1 := by
  unfold State.gather
  split
  · rfl
  · split
    · exact gatherFresh_switched s k op c o
    · split
      · split
        · rfl
        · dsimp only
          split
          · rfl
          · exact onlySwitched_trans
              (t := { s with queue := s.queue.map fun x => if x.stage = k then mergeEntry x c o else x }) rfl
              (selection_switched _)
      · split
        · rfl
        · exact onlySwitched_trans (dropEntry_switched s _ _) (gatherFresh_switched _ k op c o)

theorem testSatisfied_switched (s : State) (k : StageIx) : onlySwitched s (s.testSatisfied k) := by
  unfold State.testSatisfied
  split
  · rfl
  · split
    · exact dropEntry_switched s _ _
    · rfl

/-! ### Capture -/

/-- A trigger touches capture alone. -/
theorem trigger_only (s : State) (c : Cause) (k : Option StageIx) (w : Option WindowIx) :
    s.trigger c k w = { s with cap := (s.trigger c k w).cap } := by
  unfold State.trigger State.triggerWith
  split
  · rfl
  · split <;> rfl

theorem trigger_switched (s : State) (c : Cause) (k : Option StageIx) (w : Option WindowIx) :
    onlySwitched s (s.trigger c k w) := by rw [onlySwitched, trigger_only]

@[simp] theorem trigger_stage (s : State) (c : Cause) (k : Option StageIx) (w : Option WindowIx) (j : StageIx) :
    (s.trigger c k w).stage j = s.stage j := by rw [trigger_only]; rfl

@[simp] theorem trigger_queue (s : State) (c : Cause) (k : Option StageIx) (w : Option WindowIx) :
    (s.trigger c k w).queue = s.queue := by rw [trigger_only]

theorem holdRecord_only (s : State) (cut : Bool) :
    onlyNoticed { s with cap := { s.cap with status := .held, cutShort := cut } } (s.holdRecord cut) := by
  unfold State.holdRecord
  dsimp only
  split
  · exact notice_only _ _
  · rfl

theorem holdRecord_sends {s : State} {h : RecordHeader} (e : s.cap.header = some h) (cut : Bool) :
    s.holdRecord cut = State.notice { s with cap := { s.cap with status := .held, cutShort := cut } }
      (.captureReady h s.cap.store.length cut) := by
  simp [State.holdRecord, e]

theorem holdRecord_switched (s : State) (cut : Bool) : onlySwitched s (s.holdRecord cut) :=
  onlySwitched_trans (t := { s with cap := { s.cap with status := .held, cutShort := cut } }) rfl
    (onlySwitched_of_noticed (holdRecord_only s cut))

/-- What an edit of the channel list does to capture, by its state (R174, R169). -/
theorem channelsChanged_edited (s : State) : CaptureEdited s s.channelsChanged := by
  unfold State.channelsChanged
  refine ⟨fun h => ?_, fun h => ?_, fun h e => ?_, fun x h e hx => ?_, fun h => ?_⟩ <;> simp only [h]
  · rfl
  · simp [State.cutRecording, State.rearmed, e]
  · simp [State.cutRecording, State.holdRecord, e, hx]

theorem cutRecording_switched (s : State) : onlySwitched s s.cutRecording := by
  unfold State.cutRecording
  split
  · rfl
  · exact holdRecord_switched s true

theorem completeIfWhole_switched (s : State) (w : WindowIx) : onlySwitched s (s.completeIfWhole w) := by
  unfold State.completeIfWhole
  split
  · exact holdRecord_switched s false
  · rfl

theorem storeWindow_switched (s : State) (r : Role) (c : ClosedWindow) : onlySwitched s (s.storeWindow r c) := by
  unfold State.storeWindow
  split
  · exact onlySwitched_trans (t := s.openCaptureWindow r c) rfl (completeIfWhole_switched _ _)
  · split
    · split
      · exact holdRecord_switched s false
      · exact onlySwitched_trans (t := s.openCaptureWindow r c) rfl (completeIfWhole_switched _ _)
    · split
      · exact onlySwitched_trans (t := s.fillCaptureWindow r c) rfl (completeIfWhole_switched _ _)
      · rfl

/-- Taking in a closed window touches capture and sends at most the notice of a completed record. -/
theorem captureTake_switched (s : State) (r : Role) (c : ClosedWindow) : onlySwitched s (s.captureTake r c) := by
  unfold State.captureTake
  split
  · rfl
  · exact onlySwitched_trans (t := { s with cap := { s.cap with taken := some s.now } }) rfl (storeWindow_switched _ _ _)

/-! ### Ends of operations -/

theorem failOperation_switched (s : State) (k : StageIx) (f : InFlight) (r : FailReason) (pre : Stage → Stage) :
    onlySwitched s (s.failOperation k f r pre) := by
  unfold State.failOperation
  dsimp only
  exact onlySwitched_trans (onlySwitched_trans (onlySwitched_trans (onlySwitched_trans (changeStage_switched _ _ _)
    (notice_switched _ _)) (trigger_switched _ _ _ _)) (testSatisfied_switched _ _)) (selection_switched _)

theorem completeOperation_switched (s : State) (k : StageIx) (f : InFlight) (pre : Stage → Stage) :
    onlySwitched s (s.completeOperation k f pre) :=
  onlySwitched_trans (onlySwitched_trans (changeStage_switched _ _ _) (testSatisfied_switched _ _)) (selection_switched _)

end Sys2Proof.Machine
end

