-- ==== Sys2Proof/Laws/Evaluation.lean ====
section
/-! SUPPORT. What the evaluation of a window can touch: the elements of chapters 6, 7 and 8, the handover, and the intake of an
accepted sample frame. -/

namespace Sys2Proof.Machine

/-! ### Folds -/

/-- A fold of operations that keep to a frame keeps to it. -/
theorem foldl_frame {α : Type} {P : State → State → Prop} (refl : ∀ s, P s s) (trans : ∀ {s t u}, P s t → P t u → P s u)
    {f : State → α → State} (h : ∀ s a, P s (f s a)) (l : List α) : ∀ s, P s (l.foldl f s) := by
  induction l with
  | nil => exact refl
  | cons a l ih => exact fun s => trans (h s a) (ih _)

theorem foldl_switched {α : Type} {f : State → α → State} (h : ∀ s a, onlySwitched s (f s a)) (l : List α) (s : State) :
    onlySwitched s (l.foldl f s) := foldl_frame onlySwitched_refl onlySwitched_trans h l s

theorem foldl_evaluated {α : Type} {f : State → α → State} (h : ∀ s a, onlyEvaluated s (f s a)) (l : List α) (s : State) :
    onlyEvaluated s (l.foldl f s) := foldl_frame onlyEvaluated_refl onlyEvaluated_trans h l s

theorem modVc_evaluated (s : State) (f : VoltageState → VoltageState) : onlyEvaluated s (s.modVc f) := rfl

theorem modQuantity_evaluated (s : State) (p : Phase) (q : Option Nat) (f : QuantityState → QuantityState) :
    onlyEvaluated s (s.modQuantity p q f) := rfl

theorem notice_evaluated (s : State) (n : Notice) : onlyEvaluated s (s.notice n) :=
  onlyEvaluated_of_switched (notice_switched s n)

theorem trigger_evaluated (s : State) (c : Cause) (k : Option StageIx) (w : Option WindowIx) :
    onlyEvaluated s (s.trigger c k w) := onlyEvaluated_of_switched (trigger_switched s c k w)

theorem gather_evaluated (s : State) (k : StageIx) (op : Operation) (c : CmdClass) (o : Origin) :
    onlyEvaluated s (s.gather k op c o).1 := onlyEvaluated_of_switched (gather_switched s k op c o)

/-! ### Unbalance (chapter 7) -/

theorem clearAlarm_switched (s : State) (k : StageIx) (c : ClearCause) (u : Option Nat) (w : Option WindowIx) :
    onlySwitched s (s.clearAlarm k c u w) := by
  unfold State.clearAlarm
  split
  · exact onlySwitched_trans (modStage_switched s k _) (notice_switched _ _)
  · rfl

theorem clearAlarmUnlessLocked_switched (s : State) (k : StageIx) (c : ClearCause) (u : Option Nat) (w : Option WindowIx) :
    onlySwitched s (s.clearAlarmUnlessLocked k c u w) := by
  unfold State.clearAlarmUnlessLocked
  split
  · rfl
  · exact clearAlarm_switched s k c u w

theorem abandonCapture_switched (s : State) (k : StageIx) (e : Abandon) : onlySwitched s (s.abandonCapture k e) := by
  unfold State.abandonCapture
  split
  · exact onlySwitched_trans (modStage_switched s k _) (notice_switched _ _)
  · rfl

theorem unbalanceLeftClosed_switched (s : State) (k : StageIx) : onlySwitched s (s.unbalanceLeftClosed k) :=
  onlySwitched_trans (onlySwitched_trans (modStage_switched s k _) (clearAlarmUnlessLocked_switched _ _ _ _ _))
    (abandonCapture_switched _ _ _)

theorem submitTrip_switched (s : State) (k : StageIx) : onlySwitched s (s.submitTrip k).1 := by
  have h := gather_switched s k .open .protect .unbalanceTrip
  unfold State.submitTrip
  split
  · next s' heq =>
    rw [heq] at h
    exact onlySwitched_trans (t := s') h (modStage_switched s' k fun a => { a with inFlight := a.inFlight.map raiseFlight })
  · exact h

theorem unbalanceAlarmStep_switched (s : State) (k : StageIx) (old u : Nat) (w : WindowIx) :
    onlySwitched s (s.unbalanceAlarmStep k old u w) := by
  unfold State.unbalanceAlarmStep
  dsimp only
  split
  · exact onlySwitched_trans (onlySwitched_trans (modStage_switched s k _) (notice_switched _ _)) (trigger_switched _ _ _ _)
  · split
    · exact clearAlarmUnlessLocked_switched _ _ _ _ _
    · rfl

theorem unbalanceTripStep_switched (s : State) (k : StageIx) (old u : Nat) (w : WindowIx) :
    onlySwitched s (s.unbalanceTripStep k old u w) := by
  unfold State.unbalanceTripStep
  dsimp only
  split
  · exact onlySwitched_trans (onlySwitched_trans (onlySwitched_trans (modStage_switched s k _) (submitTrip_switched _ _))
      (notice_switched _ _)) (trigger_switched _ _ _ _)
  · split
    · exact submitTrip_switched s k
    · rfl

theorem finishCapture_switched (s : State) (k : StageIx) (w : WindowIx) : onlySwitched s (s.finishCapture k w) := by
  unfold State.finishCapture
  split
  · split
    · exact onlySwitched_trans (modStage_switched s k _) (notice_switched _ _)
    · rfl
  · rfl

theorem unbalanceEvaluate_switched (s : State) (k : StageIx) (w : WindowIx) : onlySwitched s (s.unbalanceEvaluate k w) := by
  unfold State.unbalanceEvaluate
  dsimp only
  split
  · rfl
  · split
    · split
      · rfl
      · exact onlySwitched_trans (onlySwitched_trans (onlySwitched_trans (modStage_switched s k _)
          (unbalanceAlarmStep_switched _ _ _ _ _)) (unbalanceTripStep_switched _ _ _ _ _)) (finishCapture_switched _ _ _)
    · rfl

/-! ### Harmonics (chapter 8) -/

theorem raisePhaseAlarm_evaluated (s : State) (p : Phase) (q : Option Nat) (v : Nat) (w : WindowIx) :
    onlyEvaluated s (s.raisePhaseAlarm p q v w) := by
  unfold State.raisePhaseAlarm
  dsimp only
  split
  · rfl
  · exact onlyEvaluated_trans (onlyEvaluated_trans (modQuantity_evaluated s p q _) (notice_evaluated _ _))
      (trigger_evaluated _ _ _ _)

theorem clearPhaseAlarm_evaluated (s : State) (p : Phase) (q : Option Nat) (v : Nat) (w : WindowIx) :
    onlyEvaluated s (s.clearPhaseAlarm p q v w) := by
  unfold State.clearPhaseAlarm
  dsimp only
  split
  · rfl
  · exact onlyEvaluated_trans (modQuantity_evaluated s p q _) (notice_evaluated _ _)

theorem recoverStep_evaluated (s : State) (p : Phase) (q : Option Nat) (v : Nat) (w : WindowIx) :
    onlyEvaluated s (s.recoverStep p q v w) := by
  unfold State.recoverStep
  dsimp only
  split
  · rfl
  · split
    · split
      · exact clearPhaseAlarm_evaluated s p q v w
      · rfl
    · rfl

theorem judgeQuantity_evaluated (s : State) (p : Phase) (w : WindowIx) (q : Option Nat) (v : Nat) :
    onlyEvaluated s (s.judgeQuantity p w q v) := by
  unfold State.judgeQuantity
  dsimp only
  refine onlyEvaluated_trans ?_ (recoverStep_evaluated _ _ _ _ _)
  split
  · exact onlyEvaluated_trans (modQuantity_evaluated s p q _) (raisePhaseAlarm_evaluated _ _ _ _ _)
  · rfl

theorem judgeOrders_evaluated (p : Phase) (w : WindowIx) (vs : List Nat) :
    ∀ (i : Nat) (s : State), onlyEvaluated s (State.judgeOrders p w i vs s) := by
  induction vs with
  | nil => exact fun _ s => rfl
  | cons v vs ih => exact fun i s => onlyEvaluated_trans (judgeQuantity_evaluated s p w (some i) v) (ih _ _)

theorem clearBar_switched (s : State) (k : StageIx) (w : Option WindowIx) : onlySwitched s (s.clearBar k w) := by
  unfold State.clearBar
  split
  · exact onlySwitched_trans (modStage_switched s k _) (notice_switched _ _)
  · rfl

theorem barStep_switched (w : WindowIx) (k : StageIx) (s : State) : onlySwitched s (State.barStep w k s) := by
  unfold State.barStep
  split
  · rfl
  · split
    · rfl
    · split
      · exact clearBar_switched s k _
      · rfl

theorem busHarmonicEvaluate_evaluated (s : State) (p : Phase) (w : WindowIx) :
    onlyEvaluated s (s.busHarmonicEvaluate p w) := by
  have bars : ∀ u : State, onlyEvaluated u (u.forStages (State.barStep w)) := fun u =>
    onlyEvaluated_of_switched (foldl_switched (fun s k => barStep_switched w k s) allStages u)
  unfold State.busHarmonicEvaluate
  generalize s.judged (.busV p) w = j
  match j with
  | none => rfl
  | some (vs, none) =>
    have h := judgeOrders_evaluated p w vs 0 s
    dsimp only
    split
    · exact onlyEvaluated_trans h (bars _)
    · exact h
  | some (vs, some t) =>
    have h := onlyEvaluated_trans (judgeOrders_evaluated p w vs 0 s) (judgeQuantity_evaluated _ p w none t)
    dsimp only
    split
    · exact onlyEvaluated_trans h (bars _)
    · exact h

theorem clearOverload_switched (s : State) (k : StageIx) (c : ClearCause) : onlySwitched s (s.clearOverload k c) := by
  unfold State.clearOverload
  split
  · exact onlySwitched_trans (modStage_switched s k _) (notice_switched _ _)
  · rfl

theorem overloadReached_switched (s : State) (k : StageIx) (t : Nat) (w : WindowIx) :
    onlySwitched s (s.overloadReached k t w) := by
  unfold State.overloadReached
  dsimp only
  have h := onlySwitched_trans (onlySwitched_trans (modStage_switched s k fun a => { a with overload := true })
    (gather_switched _ k .open .normal .harmonicRemoval)) (modStage_switched _ k fun a => { a with bar := true, barCount := 0 })
  split
  · exact h
  · exact onlySwitched_trans h (notice_switched _ _)

theorem stageHarmonicEvaluate_switched (s : State) (k : StageIx) (w : WindowIx) :
    onlySwitched s (s.stageHarmonicEvaluate k w) := by
  unfold State.stageHarmonicEvaluate
  dsimp only
  split
  · rfl
  · split
    · unfold State.overloadStep
      dsimp only
      split
      · exact onlySwitched_trans (modStage_switched s k _) (overloadReached_switched _ _ _ _)
      · split
        · exact onlySwitched_trans (modStage_switched s k _) (clearOverload_switched _ _ _)
        · rfl
    · rfl

theorem leftClosed_switched (s : State) (k : StageIx) : onlySwitched s (s.leftClosed k) :=
  onlySwitched_trans (onlySwitched_trans (unbalanceLeftClosed_switched s k) (modStage_switched _ k _))
    (clearOverload_switched _ _ _)

/-! ### Voltage control (chapter 6) -/

theorem deadLineStep_evaluated (s : State) (c : ControlSet) (full : Bool) (vc : Nat) (w : WindowIx) :
    onlyEvaluated s (s.deadLineStep c full vc w) := by
  have open_ : ∀ u : State, onlyEvaluated u (u.deadLineOpening vc w) := by
    intro u
    have h := foldl_evaluated (fun s k => gather_evaluated s k .open .protect .deadLine) u.deadLineStages u
    unfold State.deadLineOpening State.submitDeadLine
    dsimp only
    split
    · exact h
    · exact onlyEvaluated_trans (onlyEvaluated_trans (onlyEvaluated_trans h (modVc_evaluated _ _)) (notice_evaluated _ _))
        (trigger_evaluated _ _ _ _)
  have restore : ∀ u : State, onlyEvaluated u (u.restoreStep c full vc w) := by
    intro u
    unfold State.restoreStep
    split
    · rfl
    · split
      · rfl
      · split
        · rfl
        · split
          · exact onlyEvaluated_trans (modVc_evaluated u _) (notice_evaluated _ _)
          · rfl
  unfold State.deadLineStep
  dsimp only
  refine onlyEvaluated_trans ?_ (restore _)
  split
  · exact onlyEvaluated_trans (modVc_evaluated s _) (open_ _)
  · rfl

theorem tryFastRemoval_evaluated (s : State) : onlyEvaluated s s.tryFastRemoval.1 := by
  unfold State.tryFastRemoval
  split
  · rfl
  · split
    · rfl
    · next k _ =>
      have h := gather_evaluated s k .open .normal .fastRemoval
      split
      · next s' heq => rw [heq] at h; exact onlyEvaluated_trans h (modVc_evaluated _ _)
      · next s' _ _ heq => rw [heq] at h; exact h

theorem submitStep_evaluated (s : State) (c : ControlSet) (k : StageIx) (op : Operation) (m : Withheld) :
    onlyEvaluated s (s.submitStep c k op m) := by
  have h := gather_evaluated s k op .normal .voltage
  unfold State.submitStep
  split
  · next s' heq => rw [heq] at h; exact onlyEvaluated_trans h (modVc_evaluated _ _)
  · next s' _ _ heq => rw [heq] at h; exact onlyEvaluated_trans h (modVc_evaluated _ _)

theorem bandStep_evaluated (s : State) (c : ControlSet) (vc : Nat) : onlyEvaluated s (s.bandStep c vc) := by
  have removal : ∀ u : State, onlyEvaluated u (u.removalStep c vc) := by
    intro u
    unfold State.removalStep
    split
    · split
      · exact submitStep_evaluated _ _ _ _ _
      · rfl
    · rfl
  have insertion : ∀ u : State, onlyEvaluated u (u.insertionStep c vc) := by
    intro u
    unfold State.insertionStep
    split
    · split
      · exact submitStep_evaluated _ _ _ _ _
      · rfl
    · rfl
  unfold State.bandStep
  split
  · rfl
  · refine onlyEvaluated_trans (modVc_evaluated s (integrate c vc)) ?_
    unfold State.stepDecision
    dsimp only
    split
    · split
      · rfl
      · exact removal _
    · split
      · split
        · rfl
        · exact insertion _
      · rfl

theorem voltageEvaluate_evaluated (s : State) (w : WindowIx) : onlyEvaluated s (s.voltageEvaluate w) := by
  have missing : ∀ u : State, onlyEvaluated u (u.voltageMissing w) := by
    intro u
    unfold State.voltageMissing
    dsimp only
    split
    · exact onlyEvaluated_trans (t := (u.modVc fun v => { v with missing := min 50 (v.missing + 1) }).modVc
        fun v => { v with ctl := .suspended }) rfl (notice_evaluated _ _)
    · rfl
  have resume : ∀ u : State, onlyEvaluated u (u.voltageResume w) := by
    intro u
    unfold State.voltageResume
    split
    · exact onlyEvaluated_trans (modVc_evaluated u _) (notice_evaluated _ _)
    · rfl
  have steps : ∀ (u : State) (full : Bool) (vc : Nat), onlyEvaluated u (u.voltageSteps full vc w) := by
    intro u full vc
    unfold State.voltageSteps
    dsimp only
    have h := onlyEvaluated_trans (onlyEvaluated_trans (deadLineStep_evaluated u u.forceSet full vc w)
      (modVc_evaluated _ (overvoltage u.forceSet vc))) (tryFastRemoval_evaluated _)
    split
    · exact h
    · exact onlyEvaluated_trans h (bandStep_evaluated _ _ _)
  unfold State.voltageEvaluate
  dsimp only
  split
  · exact missing s
  · exact onlyEvaluated_trans (onlyEvaluated_trans (modVc_evaluated s _) (resume _)) (steps _ _ _)

/-! ### Elements and the handover (chapter 3) -/

theorem evaluate_evaluated (s : State) (e : Element) (w : WindowIx) : onlyEvaluated s (s.evaluate e w) := by
  cases e with
  | voltage => exact voltageEvaluate_evaluated s w
  | unbalance k => exact onlyEvaluated_of_switched (unbalanceEvaluate_switched s k w)
  | busHarmonic p => exact busHarmonicEvaluate_evaluated s p w
  | stageHarmonic k => exact onlyEvaluated_of_switched (stageHarmonicEvaluate_switched s k w)

theorem evaluateFrom_evaluated (n : Nat) (e : Element) : ∀ s : State, onlyEvaluated s (State.evaluateFrom n e s) := by
  induction n with
  | zero => exact fun s => rfl
  | succ n ih =>
    intro s
    unfold State.evaluateFrom
    split
    · rfl
    · next w _ =>
      split
      · exact onlyEvaluated_trans (onlyEvaluated_trans (evaluate_evaluated s e w)
          (u := (s.evaluate e w).modEval e fun _ => ⟨some w, some (w + 1), s.now⟩) rfl) (ih _)
      · rfl

theorem elementSees_evaluated (w : WindowIx) (s : State) (e : Element) : onlyEvaluated s (State.elementSees w s e) := by
  unfold State.elementSees
  split
  · exact onlyEvaluated_trans (t := s.modEval e (firstCandidate w)) rfl (evaluateFrom_evaluated _ _ _)
  · rfl

/-- A handover keeps to the frame of evaluation. -/
theorem handOver_evaluated (s : State) (r : Role) (c : ClosedWindow) : onlyEvaluated s (s.handOver r c) := by
  have comp : ∀ u : State, onlyEvaluated u (u.compute r c) := by
    intro u
    unfold State.compute
    dsimp only
    split <;> rfl
  unfold State.handOver
  dsimp only
  refine onlyEvaluated_trans (onlyEvaluated_trans (onlyEvaluated_trans ?_ (comp _))
    (onlyEvaluated_of_switched (captureTake_switched _ _ _))) (foldl_evaluated (elementSees_evaluated c.w) _ _)
  rfl

theorem closeWindow_evaluated (atLast : Bool) (s : State) (r : Role) : onlyEvaluated s (State.closeWindow atLast s r) := by
  unfold State.closeWindow
  split
  · rfl
  · exact onlyEvaluated_trans (t := s.modRole r fun a => { a with openWin := none }) rfl (handOver_evaluated _ _ _)

theorem openRoleWindow_evaluated (s : State) (r : Role) (w : WindowIx) : onlyEvaluated s (s.openRoleWindow r w) := by
  unfold State.openRoleWindow
  split
  · exact handOver_evaluated _ _ _
  · rfl

theorem storeFrame_evaluated (s : State) (r : Role) (e : MapEntry) (f : SampleFrame) :
    onlyEvaluated s (s.storeFrame r e f) := by
  unfold State.storeFrame
  dsimp only
  split
  · exact onlyEvaluated_trans (t := s.modRole r fun a => { a with openWin := a.openWin.map (storeSample e f) }) rfl
      (closeWindow_evaluated _ _ _)
  · rfl

theorem openByFrame_evaluated (s : State) (r : Role) (src : Byte) (f : SampleFrame) :
    onlyEvaluated s (s.openByFrame r src f) := by
  have ho := openRoleWindow_evaluated s r (windowOf f.counter)
  unfold State.openByFrame
  dsimp only
  generalize s.openRoleWindow r (windowOf f.counter) = u at ho
  have key : onlyEvaluated s (match (u.role r).openWin with
      | none => u
      | some o =>
        match servingEntry u.map r o.by_ with
        | some e => if e.source = src then u.storeFrame r e f else u
        | none => u) := by
    split
    · exact ho
    · split
      · split
        · exact onlyEvaluated_trans ho (storeFrame_evaluated _ _ _ _)
        · exact ho
      · exact ho
  split
  · exact key
  · split
    · rfl
    · exact key

theorem roleFrame_evaluated (src : Byte) (f : SampleFrame) (s : State) (r : Role) :
    onlyEvaluated s (State.roleFrame src f s r) := by
  unfold State.roleFrame
  split
  · exact openByFrame_evaluated _ _ _ _
  · split
    · rfl
    · split
      · rfl
      · split
        · exact storeFrame_evaluated _ _ _ _
        · split
          · exact onlyEvaluated_trans (closeWindow_evaluated _ _ _) (openByFrame_evaluated _ _ _ _)
          · rfl

end Sys2Proof.Machine
end

