-- ==== Sys2Proof/Laws/PerInstr.lean ====
section
/-! SUPPORT. One statement for every command: a well-formed command brings no more bytes than the frame or the parameter part
that carries it has room for. -/

namespace Sys2Proof.Laws

/-- The bytes of variable number that a command brings: the line bytes of a line event, the parameter part of a request. -/
def carriedBytes : Instr → Nat
  | .frameReceived _ bs => bs.length
  | .cutThroughEligible _ bs => bs.length
  | .frameOverlength _ bs => bs.length
  | .readMeasurements _ _ roles => 2 + roles.length
  | .writeStage _ _ w => 28 + w.orders.length
  | .appendMap _ es => 1 + 6 * es.length
  | .writeHarmonic _ (some w) => 7 + 3 * w.orders.length
  | .transitSlotTaken _ _ | .frameBoundary _ | .linkDown _ | .linkUp _ | .sourceLost _ | .yardWindowIndexTimeout
  | .lastHandedOverTimeout _ | .evaluationStateTimeout _ | .captureStoreTimeout | .switchTimeout _
  | .movingTimerExpiry _ | .unitSilence _ | .timeBaseTick | .cooldownExpiry _ | .closeGapExpiry
  | .readStatusPart _ | .readStatusControl _ | .readStatusStages _ _ | .readStatusHarmonic _
  | .readStatusCapture _ | .readCounters _ | .clearCounters _ | .readStage _ _ | .block _ _ | .unblock _ _
  | .release _ _ | .manualOpen _ _ | .manualClose _ _ | .captureBalance _ _ | .clearMap _ | .readMap _ _
  | .writeControlSet _ _ _ | .writeControlPhases _ _ | .writeHarmonic _ none | .writeLink _ _ | .enterService _
  | .enterConfig _ | .forceFallback _ | .resume _ | .restart _ | .restartTakesEffect | .armCapture _ _
  | .triggerCapture _ | .readCapture _ _ _ | .releaseCapture _ | .watchdogExpiry | .referenceClockLoss
  | .referenceClockReturn | .powerOnReset | .supplyLowReset | .pinReset | .startUp _ _ _ _
  | .kindByteArrives _ _ | .referenceGapDuringRecovery => 0

/-- A well-formed command brings at most the 257 bytes at which a frame is over length. -/
def Checked.Statement (i : Instr) : Prop := WellFormed i = true → carriedBytes i ≤ 257

theorem Checked.frameReceived (p : Port) (bs : List Byte) : Checked.Statement (.frameReceived p bs) := by
  intro h; simp [WellFormed, carriedBytes] at h ⊢; omega

theorem Checked.transitSlotTaken (p : Port) (b : Byte) : Checked.Statement (.transitSlotTaken p b) := by
  intro _; exact Nat.zero_le _

theorem Checked.cutThroughEligible (p : Port) (bs : List Byte) : Checked.Statement (.cutThroughEligible p bs) := by
  intro h; simp [WellFormed, carriedBytes] at h ⊢; omega

theorem Checked.frameOverlength (p : Port) (bs : List Byte) : Checked.Statement (.frameOverlength p bs) := by
  intro h; simp [WellFormed, carriedBytes] at h ⊢; omega

theorem Checked.frameBoundary (p : Port) : Checked.Statement (.frameBoundary p) := by
  intro _; exact Nat.zero_le _

theorem Checked.linkDown (p : Port) : Checked.Statement (.linkDown p) := by
  intro _; exact Nat.zero_le _

theorem Checked.linkUp (p : Port) : Checked.Statement (.linkUp p) := by
  intro _; exact Nat.zero_le _

theorem Checked.sourceLost (addr : Byte) : Checked.Statement (.sourceLost addr) := by
  intro _; exact Nat.zero_le _

theorem Checked.yardWindowIndexTimeout : Checked.Statement .yardWindowIndexTimeout := by
  intro _; exact Nat.zero_le _

theorem Checked.lastHandedOverTimeout (r : Role) : Checked.Statement (.lastHandedOverTimeout r) := by
  intro _; exact Nat.zero_le _

theorem Checked.evaluationStateTimeout (e : Element) : Checked.Statement (.evaluationStateTimeout e) := by
  intro _; exact Nat.zero_le _

theorem Checked.captureStoreTimeout : Checked.Statement .captureStoreTimeout := by
  intro _; exact Nat.zero_le _

theorem Checked.switchTimeout (k : StageIx) : Checked.Statement (.switchTimeout k) := by
  intro _; exact Nat.zero_le _

theorem Checked.movingTimerExpiry (k : StageIx) : Checked.Statement (.movingTimerExpiry k) := by
  intro _; exact Nat.zero_le _

theorem Checked.unitSilence (k : StageIx) : Checked.Statement (.unitSilence k) := by
  intro _; exact Nat.zero_le _

theorem Checked.timeBaseTick : Checked.Statement .timeBaseTick := by
  intro _; exact Nat.zero_le _

theorem Checked.cooldownExpiry (k : StageIx) : Checked.Statement (.cooldownExpiry k) := by
  intro _; exact Nat.zero_le _

theorem Checked.closeGapExpiry : Checked.Statement .closeGapExpiry := by
  intro _; exact Nat.zero_le _

theorem Checked.readStatusPart (rq : Requester) : Checked.Statement (.readStatusPart rq) := by
  intro _; exact Nat.zero_le _

theorem Checked.readStatusControl (rq : Requester) : Checked.Statement (.readStatusControl rq) := by
  intro _; exact Nat.zero_le _

theorem Checked.readStatusStages (rq : Requester) (first : Byte) : Checked.Statement (.readStatusStages rq first) := by
  intro _; exact Nat.zero_le _

theorem Checked.readStatusHarmonic (rq : Requester) : Checked.Statement (.readStatusHarmonic rq) := by
  intro _; exact Nat.zero_le _

theorem Checked.readStatusCapture (rq : Requester) : Checked.Statement (.readStatusCapture rq) := by
  intro _; exact Nat.zero_le _

theorem Checked.readMeasurements (rq : Requester) (selector : Byte) (roles : List Byte) : Checked.Statement (.readMeasurements rq selector roles) := by
  intro h; simp [WellFormed, carriedBytes] at h ⊢; omega

theorem Checked.readCounters (rq : Requester) : Checked.Statement (.readCounters rq) := by
  intro _; exact Nat.zero_le _

theorem Checked.clearCounters (rq : Requester) : Checked.Statement (.clearCounters rq) := by
  intro _; exact Nat.zero_le _

theorem Checked.readStage (rq : Requester) (stage : Byte) : Checked.Statement (.readStage rq stage) := by
  intro _; exact Nat.zero_le _

theorem Checked.writeStage (rq : Requester) (stage : Byte) (w : StageWrite) : Checked.Statement (.writeStage rq stage w) := by
  intro h; simp [WellFormed, carriedBytes] at h ⊢; omega

theorem Checked.block (rq : Requester) (stage : Byte) : Checked.Statement (.block rq stage) := by
  intro _; exact Nat.zero_le _

theorem Checked.unblock (rq : Requester) (stage : Byte) : Checked.Statement (.unblock rq stage) := by
  intro _; exact Nat.zero_le _

theorem Checked.release (rq : Requester) (stage : Byte) : Checked.Statement (.release rq stage) := by
  intro _; exact Nat.zero_le _

theorem Checked.manualOpen (rq : Requester) (stage : Byte) : Checked.Statement (.manualOpen rq stage) := by
  intro _; exact Nat.zero_le _

theorem Checked.manualClose (rq : Requester) (stage : Byte) : Checked.Statement (.manualClose rq stage) := by
  intro _; exact Nat.zero_le _

theorem Checked.captureBalance (rq : Requester) (stage : Byte) : Checked.Statement (.captureBalance rq stage) := by
  intro _; exact Nat.zero_le _

theorem Checked.clearMap (rq : Requester) : Checked.Statement (.clearMap rq) := by
  intro _; exact Nat.zero_le _

theorem Checked.appendMap (rq : Requester) (entries : List MapEntryWrite) : Checked.Statement (.appendMap rq entries) := by
  intro h; simp [WellFormed, carriedBytes] at h ⊢; omega

theorem Checked.readMap (rq : Requester) (start : Byte) : Checked.Statement (.readMap rq start) := by
  intro _; exact Nat.zero_le _

theorem Checked.writeControlSet (rq : Requester) (i : SetId) (w : Option ControlSetWrite) : Checked.Statement (.writeControlSet rq i w) := by
  intro _; exact Nat.zero_le _

theorem Checked.writeControlPhases (rq : Requester) (w : Option PhaseSet) : Checked.Statement (.writeControlPhases rq w) := by
  intro _; exact Nat.zero_le _

theorem Checked.writeHarmonic (rq : Requester) (w : Option HarmonicWrite) : Checked.Statement (.writeHarmonic rq w) := by
  cases w <;> intro h <;> simp [WellFormed, carriedBytes] at h ⊢; omega

theorem Checked.writeLink (rq : Requester) (w : Option LinkWrite) : Checked.Statement (.writeLink rq w) := by
  intro _; exact Nat.zero_le _

theorem Checked.enterService (rq : Requester) : Checked.Statement (.enterService rq) := by
  intro _; exact Nat.zero_le _

theorem Checked.enterConfig (rq : Requester) : Checked.Statement (.enterConfig rq) := by
  intro _; exact Nat.zero_le _

theorem Checked.forceFallback (rq : Requester) : Checked.Statement (.forceFallback rq) := by
  intro _; exact Nat.zero_le _

theorem Checked.resume (rq : Requester) : Checked.Statement (.resume rq) := by
  intro _; exact Nat.zero_le _

theorem Checked.restart (rq : Requester) : Checked.Statement (.restart rq) := by
  intro _; exact Nat.zero_le _

theorem Checked.restartTakesEffect : Checked.Statement .restartTakesEffect := by
  intro _; exact Nat.zero_le _

theorem Checked.armCapture (rq : Requester) (w : Option ArmWrite) : Checked.Statement (.armCapture rq w) := by
  intro _; exact Nat.zero_le _

theorem Checked.triggerCapture (rq : Requester) : Checked.Statement (.triggerCapture rq) := by
  intro _; exact Nat.zero_le _

theorem Checked.readCapture (rq : Requester) (window : Byte) (channel : Byte) : Checked.Statement (.readCapture rq window channel) := by
  intro _; exact Nat.zero_le _

theorem Checked.releaseCapture (rq : Requester) : Checked.Statement (.releaseCapture rq) := by
  intro _; exact Nat.zero_le _

theorem Checked.watchdogExpiry : Checked.Statement .watchdogExpiry := by
  intro _; exact Nat.zero_le _

theorem Checked.referenceClockLoss : Checked.Statement .referenceClockLoss := by
  intro _; exact Nat.zero_le _

theorem Checked.referenceClockReturn : Checked.Statement .referenceClockReturn := by
  intro _; exact Nat.zero_le _

theorem Checked.powerOnReset : Checked.Statement .powerOnReset := by
  intro _; exact Nat.zero_le _

theorem Checked.supplyLowReset : Checked.Statement .supplyLowReset := by
  intro _; exact Nat.zero_le _

theorem Checked.pinReset : Checked.Statement .pinReset := by
  intro _; exact Nat.zero_le _

theorem Checked.startUp (pins : Byte) (reference : Bool) (upS : Bool) (upF : Bool) : Checked.Statement (.startUp pins reference upS upF) := by
  intro _; exact Nat.zero_le _

theorem Checked.kindByteArrives (p : Port) (b : Byte) : Checked.Statement (.kindByteArrives p b) := by
  intro _; exact Nat.zero_le _

theorem Checked.referenceGapDuringRecovery : Checked.Statement .referenceGapDuringRecovery := by
  intro _; exact Nat.zero_le _

end Sys2Proof.Laws
end

