-- ==== Sys2Proof/Laws/Ports.lean ====
section
/-! SUPPORT. The receive store and the transit slots, byte by byte, and the lengths of what the part puts into frames. -/

namespace Sys2Proof.Machine

/-! ### Field encodings -/

@[simp] theorem be_length (k : Nat) : ∀ n, (be k n).length = k := by
  induction k with
  | zero => exact fun n => rfl
  | succ k ih => exact fun n => by simp [be, ih]

@[simp] theorem beInt_length (k : Nat) (x : Int) : (beInt k x).length = k := be_length _ _

@[simp] theorem encFlag_length (b : Bool) : (encFlag b).length = 1 := rfl

@[simp] theorem encOpt_none_length (w : Nat) : (encOpt w none).length = w + 1 := by simp [encOpt]

@[simp] theorem encOpt_some_length (w : Nat) (bs : List Byte) : (encOpt w (some bs)).length = bs.length + 1 := rfl

@[simp] theorem optBe_length (w : Nat) (o : Option Nat) : (optBe w o).length = w + 1 := by cases o <;> simp [optBe, encOpt]

@[simp] theorem encPosition_length (p : Option Position) : (encPosition p).length = 2 := optBe_length _ _

@[simp] theorem encWindow_length (w : Option WindowIx) : (encWindow w).length = 3 := optBe_length _ _

@[simp] theorem checkBytes_length (c : BitVec 16) : (checkBytes c).length = 2 := rfl

/-- A frame of the part's own is eight bytes and its payload. -/
@[simp] theorem formFrame_length (code dst src seq : Byte) (payload : List Byte) :
    (formFrame code dst src seq payload).length = payload.length + 8 := by
  simp [formFrame]; omega

/-! ### Counters -/

theorem bump_le {n : Nat} (h : n ≤ 4294967295) : bump n ≤ 4294967295 := by unfold bump; split <;> omega

theorem le_bump (n : Nat) : n ≤ bump n := by unfold bump; split <;> omega

theorem bumpBy_le {c n : Nat} (h : c ≤ 4294967295) : bumpBy c n ≤ 4294967295 := by unfold bumpBy; omega

/-! ### Slots -/

@[simp] theorem modLast_length (f : TransitSlot → TransitSlot) (l : List TransitSlot) : (modLast f l).length = l.length := by
  simp [modLast]

/-- The newest slot is the one changed. -/
theorem modLast_append (f : TransitSlot → TransitSlot) (l : List TransitSlot) (x : TransitSlot) :
    modLast f (l ++ [x]) = l ++ [f x] := by
  have h : ∀ l : List TransitSlot, (l ++ [x]).modify l.length f = l ++ [f x] := by
    intro l
    induction l with
    | nil => rfl
    | cons y l ih => simpa using ih
  simpa [modLast] using h l

/-! ### The receive store -/

/-- A first byte opens a frame with the check mode and threshold in force. -/
theorem rxByte_idle {s : State} {p : Port} (h : (s.port p).rx = .idle) (b : Byte) :
    State.rxByte p s b = s.setRx p (.receiving (s.openFrame b)) := by simp [State.rxByte, h]

theorem rxByte_ignoring {s : State} {p : Port} (h : (s.port p).rx = .ignoring) (b : Byte) : State.rxByte p s b = s := by
  simp [State.rxByte, h]

/-- The second byte is the destination. -/
theorem rxByte_destination {s : State} {p : Port} {f : RxFrame} (h : (s.port p).rx = .receiving f) (hl : f.bytes.length = 1)
    (b : Byte) : State.rxByte p s b = s.takeSlot p f b := by simp [State.rxByte, h, hl]

theorem rxByte_later {s : State} {p : Port} {f : RxFrame} (h : (s.port p).rx = .receiving f) (hl : f.bytes.length ≠ 1)
    (b : Byte) : State.rxByte p s b = s.laterByte p f b := by simp [State.rxByte, h, hl]

/-- A port takes the bytes of a list one after another. -/
theorem rxBytes_append (s : State) (p : Port) (as bs : List Byte) : s.rxBytes p (as ++ bs) = (s.rxBytes p as).rxBytes p bs :=
  List.foldl_append

end Sys2Proof.Machine
end

