-- ==== Sys2Proof/Laws/Requests.lean ====
section
/-! SUPPORT. How a command reaches its meaning: requests, line events and the part's own events, in a part that runs and in
one that does not; and what a reply does. -/

namespace Sys2Proof.Machine

/-! ### Requests -/

/-- A running full node carries a request out and answers it. -/
theorem State.request_of_executes {s : State} (h : s.executes) (rq : Requester) (kind : Byte) (f : State → State × Answer) :
    s.request rq kind f = (f s).1.reply rq kind false (f s).2 := by
  obtain ⟨h1, h2⟩ := h
  simp [State.request, State.answer, h1, h2]

/-- A part held in reset and a forwarding-only part carry none out. -/
theorem State.request_of_not_executes {s : State} (h : ¬ s.executes) (rq : Requester) (kind : Byte)
    (f : State → State × Answer) : s.request rq kind f = s := by
  unfold State.executes at h
  unfold State.request
  cases hh : s.held <;> cases hf : s.fullNode <;> simp_all

/-- A reply enters the up insert queue or is counted as dropped, and touches nothing else. -/
theorem reply_only (s : State) (rq : Requester) (kind : Byte) (restart : Bool) (a : Answer) :
    s.reply rq kind restart a = { s with
      portS := { s.portS with
        ins := (s.reply rq kind restart a).portS.ins, seq := (s.reply rq kind restart a).portS.seq }
      repliesDropped := (s.reply rq kind restart a).repliesDropped } := by
  unfold State.reply State.enterUp State.countUpDrop
  split
  · rfl
  · split <;> rfl

/-! ### Line events and the part's own events -/

theorem State.onLine_of_up {s : State} {p : Port} (h : s.held = false) (u : (s.port p).up = true) (f : State → State) :
    s.onLine p f = f s := by simp [State.onLine, h, u]

theorem State.onLine_of_down {s : State} {p : Port} (u : (s.port p).up = false) (f : State → State) : s.onLine p f = s := by
  simp [State.onLine, u]

theorem State.live_of_running {s : State} (h : s.held = false) (f : State → State) : s.live f = f s := by simp [State.live, h]

theorem State.live_of_held {s : State} (h : s.held = true) (f : State → State) : s.live f = s := by simp [State.live, h]

/-! ### Every command ends in a next state -/

/-- No command stops the part. -/
theorem exec_next (c : Instr) (s : State) : ∃ t : State, exec c s = .next t := by
  cases c <;> exact ⟨_, rfl⟩

/-- No step stops the part. -/
theorem step_next (s : State) : ∃ t : State, step s = .next t := by
  unfold step
  split
  · exact ⟨_, rfl⟩
  · exact exec_next _ _

end Sys2Proof.Machine
end

