-- ==== Sys2Proof/Tests/Slice0.lean ====
section
/-! SUPPORT. The model's own tests: ill-formed commands refused, the worked cases of the specification, one step of commands on
small states, and for every statement with hypotheses a state and operands that meet them. -/

namespace Sys2Proof.Tests

open Sys2Proof.Machine

-- One theorem at a time: a kernel evaluation that waits for another would hold a thread of its own.
set_option Elab.async false

/-! ### Well-formedness: an ill-formed command for each check -/

theorem test_wf_frame_too_long : WellFormed (.frameReceived .S (List.replicate 258 0)) = false := by decide +kernel

theorem test_wf_frame_at_limit : WellFormed (.frameReceived .S (List.replicate 257 0)) = true := by decide +kernel

theorem test_wf_cut_through_without_bytes : WellFormed (.cutThroughEligible .F []) = false := by decide

theorem test_wf_cut_through_too_long : WellFormed (.cutThroughEligible .F (List.replicate 258 0)) = false := by
  decide +kernel

theorem test_wf_overlength_without_bytes : WellFormed (.frameOverlength .S []) = false := by decide

theorem test_wf_overlength_too_long : WellFormed (.frameOverlength .S (List.replicate 258 0)) = false := by decide +kernel

theorem test_wf_measurements_too_long : WellFormed (.readMeasurements ⟨1, 0⟩ 0 (List.replicate 244 1)) = false := by
  decide +kernel

theorem test_wf_append_map_too_long :
    WellFormed (.appendMap ⟨1, 0⟩ (List.replicate 41 ⟨1, 0, 1, 4096, false⟩)) = false := by decide +kernel

theorem test_wf_harmonic_too_long : WellFormed (.writeHarmonic ⟨1, 0⟩ (some ⟨List.replicate 80 (2, 1), 1, 1, 1⟩)) = false := by
  decide +kernel

/-! ### Small states -/

/-- The state a command ends in. -/
def after (o : Host.Outcome State Fault Refusal) : State :=
  match o with
  | .next t => t
  | .fault _ | .refused _ => State.reset

/-- A full node, started, both ports UP, in CONFIG, with nothing configured. -/
def running : State :=
  { State.reset with
    held := false, addr := 5, portS := { resetPort with up := true }, portF := { resetPort with up := true } }

/-- The same in SERVICE. -/
def service : State := { running with mode := .service }

def setOf (s : State) (a : Stage) : State := { s with stages := s.stages.set 0 a }

/-- An enabled stage with unit address 40. -/
def enabledStage : Stage := { resetStage with cfg := { resetSettings with enabled := true, unit := some 40, cooldown := 10 } }

def closedStage : Stage :=
  { enabledStage with state := .closed, reported := some .closed, stable := some .closed }

def readyStage : Stage := { enabledStage with state := .openReady, reported := some .open, stable := some .open }

/-- A closed stage 0 in SERVICE, in the in-service list. -/
def closedOne : State := { setOf service closedStage with inService := [0] }

/-- A stage ready to close in SERVICE. -/
def readyOne : State := setOf service readyStage

/-- Stage 0 opening. -/
def openFlight : InFlight := ⟨.open, 7, .normal, .voltage, 0, 150⟩

def openingOne : State :=
  { setOf service { closedStage with state := .opening, inFlight := some openFlight } with inService := [0] }

def rq : Requester := ⟨9, 700⟩

/-- One mapped source, 40, whose slot 0 serves BUS_VA. -/
def mappedOne : State :=
  { running with
    map := [⟨40, 0, some (.busV .A), 4096, true⟩]
    sources := [⟨40, .healthy, some 100, 0, 4, some 3, 5⟩] }

/-- A good frame of another node to node 9. -/
def passing : List Byte := formFrame 0x20 9 3 4 [1, 2, 3]

def slotOf (c : CheckState) (begun : Bool) : TransitSlot := ⟨passing, .cut, 8, c, begun⟩

/-! ### Worked cases of the specification -/

/-- R2: the check value of the digits "1" to "9". -/
theorem test_crc_of_digits : crc [0x31, 0x32, 0x33, 0x34, 0x35, 0x36, 0x37, 0x38, 0x39] = 0x29B1 := by decide +kernel

/-- R29: the streak of 2 stands when the next window follows a whole one, and is lost when a window was jumped or the
last counter never came. -/
theorem test_streak_needs_consecutive_windows :
    carriedStreak ⟨40, .new, some 127, 0, 2, some 3, 32⟩ 4 = 2 ∧ carriedStreak ⟨40, .new, some 127, 0, 2, some 3, 32⟩ 5 = 0
      ∧ carriedStreak ⟨40, .new, some 126, 0, 2, some 3, 31⟩ 4 = 0 := by decide

/-- Section 2.4, worked case scaling: gain 6554, raw 20000 and −21000. -/
theorem test_scaling_worked_case :
    entrySample ⟨40, 0, none, 6554, false⟩ ⟨0, .good, [20000]⟩ = some (32001, false)
      ∧ entrySample ⟨40, 0, none, 6554, false⟩ ⟨0, .good, [-21000]⟩ = some (-32768, true) := by decide +kernel

/-- Section 3.3, worked case: the mean square 71,437,500 has root 8452, and 8452 counts are 1032 pm. -/
theorem test_rms_worked_case : isqrt (2286000000 / 32) = 8452 ∧ (8452 * 1000 + 4096) / 8192 = 1032 := by decide +kernel

/-- The same case: the fundamental's magnitude and value. -/
theorem test_fundamental_worked_case :
    (2900000000 / 16384 : Int) = 177001 ∧ (-1000000000 / 16384 : Int) = -61036 ∧ (-61036 / 16 : Int) = -3815
      ∧ isqrt (177001 * 177001 + 61036 * 61036) / 16 = 11701 ∧ 11701 * 1000 / 11585 = 1010 := by decide +kernel

/-- The same case: the THD of magnitudes 463, 280 and 120. -/
theorem test_thd_worked_case : thdPm [463, 280, 120] 11701 = 47 := by decide +kernel

/-- Section 3.5, worked case: crossings 1 and 5. -/
theorem test_crossing_worked_case :
    crossingPos 3201 (-700) 1500 = 51205 ∧ crossingPos 3330 (-1100) 600 = 53274 := by decide +kernel

/-- The same case: 49,492 mHz, deviation 10 pm, within band. -/
theorem test_frequency_worked_case :
    ((⟨[51205, 51722, 52239, 52756, 53274], none, 0, none, none⟩ : Tracker).finish 50000 104).freq
      = some ⟨49492, 10, false⟩ := by decide +kernel

/-- Section 7.2, worked case: the rotation and the unbalance with and without compensation. -/
theorem test_unbalance_worked_case :
    magnitude 11062 (-3815) = 11701 ∧ rotate 150 90 11062 (-3815) 11701 = (112, 133)
      ∧ unbalancePm (112, 133) (some (40, 25)) = 11 ∧ unbalancePm (112, 133) none = 14 := by decide +kernel

/-- The same case: the alarm counter is incremented, the trip counter goes to 0. -/
theorem test_unbalance_counters_worked_case : moveCount 3 50 8 11 = 4 ∧ moveCount 3 50 20 11 = 0 := by decide

/-- Section 4.6, worked case: the sixteenth tick on the internal oscillator is skipped. -/
theorem test_internal_tick_worked_case :
    phaseTick .internal 14 = (15, false) ∧ phaseTick .internal 15 = (0, true) ∧ phaseTick .reference 15 = (15, false) := by
  decide

/-- Section 6.10, worked sequence: windows 500, 503 and 509. -/
theorem test_accumulator_worked_sequence :
    moveAcc { resetControlSet with level := 100 } 1045 0 = 25 ∧ moveAcc { resetControlSet with level := 100 } 1052 83 = 100
      ∧ moveAcc { resetControlSet with level := 100 } 1018 2 = 0 := by decide

/-- R46: the coefficients a quarter, a half and three quarters round. -/
theorem test_coefficients : cosCoef 0 = 16384 ∧ cosCoef 8 = 0 ∧ cosCoef 16 = -16384 ∧ cosCoef 24 = 0 ∧ cosCoef 5 = 9102
    ∧ cosCoef 11 = -9102 ∧ sinOf 1 8 = -16384 := by decide

/-! ### One step of a command -/

/-- A POSITION payload of three bytes, and one of an unknown position (Table 5-1). -/
theorem test_position_payload :
    readPosition [1, 7, 1] = some ⟨.closed, 7, .accepted⟩ ∧ readPosition [4, 0, 0] = none ∧ readPosition [1, 7] = none := by
  decide

/-- R81: BLOCK sets the flag and sends a STAGE_STATE notice before the reply. -/
theorem test_block_sets_flag :
    let t := after (exec (.block rq 0) running)
    (t.stage 0).blocked = true ∧ t.portS.ins.map (·.kind) = [.notice, .reply false] := by decide +kernel

/-- R95: a CLOSE sent sets the record, the tag counter and the last-close time, and the COMMAND frame enters the queue. -/
theorem test_manual_close_is_sent :
    let t := after (exec (.manualClose rq 0) readyOne)
    (t.stage 0).state = .closing ∧ (t.stage 0).cfg.operations = 1 ∧ t.tag = 2 ∧ t.lastClose = some 0
      ∧ t.queue = [] ∧ t.portF.ins.map (fun f => f.bytes.take 9) = [[0x20, 40, 5, 0, 0, 3, 2, 1, 0]] := by decide +kernel

/-- R102: a MANUAL OPEN of a stage reported OPEN is answered DONE with the "already" mark. -/
theorem test_manual_open_already :
    (after (exec (.manualOpen rq 0) readyOne)).portS.ins.map (fun f => (f.bytes.drop 6).take 7)
      = [[0x15, 2, 188, 0, 0, 1, 255]] := by decide +kernel

/-- R97: an OPEN accepted and reported OPEN starts the full cooldown and takes the stage out of the in-service list. -/
theorem test_open_completes :
    let t := State.positionRecord ⟨.open, 7, .accepted⟩ openingOne 0
    (t.stage 0).state = .openCooling ∧ (t.stage 0).cooling = 10000 ∧ t.inService = [] := by decide +kernel

/-- R137: a stage in LOCKED_OUT that is lost keeps its lockout (log entry 41). -/
theorem test_lost_lockout_stays_pending :
    let t := State.positionRecord ⟨.unknown, 0, .none⟩ (setOf service { enabledStage with state := .lockedOut }) 0
    (t.stage 0).state = .failed ∧ (t.stage 0).lockoutPending = true := by decide +kernel

/-- R5, R180: a MANAGE frame to the part itself is consumed and answered; its kind code is echoed. -/
theorem test_manage_frame_is_answered :
    let t := after (exec (.frameReceived .S (formFrame 0x30 5 9 0 [0x03, 2, 188])) running)
    t.portS.ctr.good = 1 ∧ t.portS.ins.map (fun f => (f.bytes.take 4, f.bytes.getD 6 0, f.bytes.length))
      = [([0x31, 9, 5, 0], 0x03, 97)] := by decide +kernel

/-- R6: a MANAGE frame to the part on port F is counted as wrong side and not answered. -/
theorem test_manage_frame_on_wrong_side :
    let t := after (exec (.frameReceived .F (formFrame 0x30 5 9 0 [0x03, 2, 188])) running)
    t.portF.ctr.wrongSide = 1 ∧ t.portS.ins = [] := by decide +kernel

/-- R1: a frame of no bytes fails its count and is counted. -/
theorem test_empty_frame_is_counted :
    (after (exec (.frameReceived .F []) running)).portF.ctr = ⟨0, 1, 0, 0, 0, 0⟩ := by decide +kernel

/-- R8, R11: a frame to another node is held, found good, and sent at the boundary. -/
theorem test_frame_is_forwarded :
    let t := after (exec (.frameReceived .S passing) running)
    let u := after (exec (.frameBoundary .F) t)
    t.portF.buf.map (fun x => (x.bytes, x.mode, x.check)) = [(passing, .hold, .good)] ∧ u.portF.tx = .transit 0 := by
  decide +kernel

/-- R183, R185: START_UP samples the pins and sends the START notice with the reset cause. -/
theorem test_start_up :
    let t := after (exec (.startUp 5 true true true) State.reset)
    t.held = false ∧ t.addr = 5 ∧ t.portS.ins.map (fun f => f.bytes.drop 6 |>.take 9) = [[1, 0, 0, 0, 0, 0, 0, 0, 5]] := by
  decide +kernel

/-- R3: a part with address 255 starts without a notice and asserts YARD ALARM. -/
theorem test_forwarding_only_start_up :
    let t := after (exec (.startUp 255 true true true) State.reset)
    t.portS.ins = [] ∧ yardAlarm t = true := by decide +kernel

/-- R34, R36, R37: an accepted sample of the primary opens a window and stores its value. -/
theorem test_sample_is_stored :
    let t := mappedOne.sampleFrame 40 [0, 101, 0, 1, 0x12, 0x34]
    (t.role (.busV .A)).openWin.map (fun o => (o.w, o.by_, o.pos[5]?)) = some (3, .primary, some (some 0x1234)) := by
  decide +kernel

/-- R184: a RESTART keeps the map and the stage settings and clears the positions. -/
theorem test_restart_clears_live_state :
    let t := closedOne.enterRestart
    t.held = true ∧ (t.stage 0).cfg = closedStage.cfg ∧ (t.stage 0).reported = none ∧ (t.stage 0).awaiting = true := by
  decide +kernel

/-- Table 3-1: the list of orders stands ahead of the availability of the harmonics, the THD last. -/
theorem test_harmonic_part_order :
    encHarmonic (some ⟨[(5, 40)], some [40], some 7⟩) = [1, 1, 5, 0, 0, 40, 1, 0, 40, 1, 1, 0, 7] := by decide +kernel

/-- Chapter 10, worked sequence: FORCE FALLBACK forms its MODE notice (2) before the COMMAND_DROPPED notices (16). -/
theorem test_force_fallback_notice_order :
    let s : State := { openingOne with queue := [⟨0, .close, .normal, .manual, 0⟩] }
    (after (exec (.forceFallback rq) s)).portS.ins.map (fun f => (f.kind, f.bytes.getD 6 0))
      = [(.notice, 2), (.notice, 16), (.reply false, 0x42)] := by decide +kernel

/-- R187, R194: a port that is UP reads 0, one that is DOWN 1. -/
theorem test_link_states_are_named_values :
    let s := running.modPort .F fun q => { q with up := false }
    (after (exec (.readCounters rq) s)).portS.ins.map (fun f => (f.bytes.drop 13).take 2) = [[0, 1]] := by decide +kernel

/-- R189: a WRITE STAGE refused LENGTH carries its stage index. -/
theorem test_write_stage_length_index :
    (after (exec (.writeStage rq 7 ⟨true, 40, 1, 20, 10, 50, 3, 100, 3, none, List.replicate 15 2, 100, 3, 0⟩) running)).portS.ins.map
      (fun f => (f.bytes.drop 9).take 4) = [[2, 10, 0, 7]] := by decide +kernel

/-- R140: no balance is captured of a stage with lockout pending. -/
theorem test_capture_balance_lockout :
    (setOf service { closedStage with lockoutPending := true }).captureBalanceCheck 0 = some .state := by decide +kernel

/-- R182: the source stands until the tick that follows 16 ticks of edges. -/
theorem test_reference_returns_at_next_tick :
    let s : State := { running with clock := .internal, recovery := 15 }
    let one := after (exec .timeBaseTick s)
    let two := after (exec .timeBaseTick one)
    (after (exec .referenceClockReturn one)).clock = .internal ∧ (after (exec .referenceClockReturn two)).clock = .reference := by
  decide +kernel

/-- R59: the timeout ends the 10 s, so a candidate set after it stands. -/
theorem test_evaluation_timeout_acts_once :
    let s : State := { service.modEval .voltage fun _ => ⟨some 3, some 4, some 0⟩ with now := 10000 }
    let t := after (exec (.evaluationStateTimeout .voltage) s)
    let u : State := { t.modEval .voltage (firstCandidate 9) with now := 20000 }
    t.eval .voltage = ⟨none, none, none⟩
      ∧ ((after (exec (.evaluationStateTimeout .voltage) u)).eval .voltage).cand = some 9 := by decide +kernel

/-! ### States that meet the hypotheses of the statements -/

theorem executes_running : running.executes := ⟨rfl, by decide⟩

theorem executes_service : service.executes := ⟨rfl, by decide⟩

theorem executes_closedOne : closedOne.executes := ⟨rfl, by decide⟩

theorem executes_readyOne : readyOne.executes := ⟨rfl, by decide⟩

theorem executes_openingOne : openingOne.executes := ⟨rfl, by decide⟩

theorem stage_replicate (k : StageIx) (a b : Stage) :
    ((Vector.replicate 24 b).set 0 a)[k] = if k = 0 then a else b := by
  by_cases h : k = 0
  · subst h; simp
  · have h' : ¬ (0 : Nat) = k := fun e => h (Fin.ext e.symm)
    simp [h, h']

theorem running_stage (k : StageIx) : running.stage k = resetStage := by simp [State.stage, running, State.reset]

theorem setOf_stage (s : State) (h : s.stages = Vector.replicate 24 resetStage) (a : Stage) (k : StageIx) :
    (setOf s a).stage k = if k = 0 then a else resetStage := by
  have : (setOf s a).stages = (Vector.replicate 24 resetStage).set 0 a := by simp [setOf, h]
  simp only [State.stage, this, stage_replicate]

/-! #### Chapter 1 -/

theorem witness_EmptyQueueSendsAByte :
    let s := running.modPort .F fun q => { q with tx := .transit 3, buf := [slotOf .good true] }
    let u := running.modPort .S fun q => { q with tx := .insert ⟨.notice, passing⟩ 0 }
    (s.pending = [] ∧ s.held = false ∧ (s.port .S).tx = .idle ∧ (s.port .F).tx = .transit 3
      ∧ (s.port .F).buf = [slotOf .good true])
    ∧ u.pending = [] ∧ u.held = false ∧ (u.port .S).tx = .insert ⟨.notice, passing⟩ 0 := by decide +kernel

theorem witness_KindAndDestinationBytes :
    let s := running.setRx .S (.receiving ⟨[0x20], .hold, 64, false⟩)
    (running.held = false ∧ (running.port .S).up = true ∧ (running.port .S).rx = .idle)
    ∧ (s.held = false ∧ (s.port .S).up = true ∧ (s.port .S).rx = .receiving ⟨[0x20], .hold, 64, false⟩)
    ∧ (0x12 : Byte) ∉ [(0x10 : Byte), 0x11, 0x20, 0x30, 0x31, 0x32] := by decide +kernel

/-- The threshold is met exactly. -/
theorem witness_CutThroughBecomesEligible :
    let f : RxFrame := ⟨[0x10, 9, 3], .cut, 8, true⟩
    let slot : TransitSlot := ⟨[0x10, 9, 3], .cut, 8, .pending, false⟩
    let bs : List Byte := [0, 0, 4, 1, 2]
    let s := (running.setRx .S (.receiving f)).modPort .F fun q => { q with buf := [slot] }
    s.held = false ∧ (s.port .S).up = true ∧ (s.port .S).rx = .receiving f ∧ f.inSlot = true ∧ 2 ≤ f.bytes.length
      ∧ (s.port (otherPort .S)).buf = [] ++ [slot] ∧ slot.bytes = f.bytes ∧ slot.mode = .cut
      ∧ f.bytes.length + bs.length ≤ 256 ∧ slot.threshold ≤ f.bytes.length + bs.length
      ∧ lengthField (f.bytes ++ bs) ≤ 248 := by decide +kernel

theorem witness_OverlengthFrameIsBad :
    let f : RxFrame := ⟨List.replicate 256 7, .hold, 64, true⟩
    let s := (running.setRx .S (.receiving f)).modPort .F fun q => { q with buf := [slotOf .pending false] }
    s.held = false ∧ (s.port .S).up = true ∧ (s.port .S).rx = .receiving f ∧ f.bytes.length = 256 := by decide +kernel

theorem witness_GoodFrameIsCountedAndHandedOn :
    let f : RxFrame := ⟨passing, .hold, 64, true⟩
    let s := (running.setRx .S (.receiving f)).modPort .F fun q => { q with buf := [slotOf .pending false] }
    s.held = false ∧ (s.port .S).up = true ∧ (s.port .S).rx = .receiving f ∧ frameGood f.bytes = true := by decide +kernel

theorem witness_ConsumptionByKindAndPort :
    running.fullNode = true ∧ ({ running with addr := 255 } : State).fullNode = false := by decide

/-- A bad frame with no slot, with its copy under way, and behind another frame. -/
theorem witness_BadFrameLeavesItsSlot :
    let f : RxFrame := ⟨[0x10, 9, 3], .cut, 8, true⟩
    let g : RxFrame := { f with inSlot := false }
    let slot : TransitSlot := ⟨[0x10, 9, 3], .cut, 2, .pending, true⟩
    let s := (running.setRx .S (.receiving f)).modPort .F fun q => { q with buf := [slot], tx := .transit 1 }
    let u := (running.setRx .S (.receiving f)).modPort .F fun q => { q with buf := [slotOf .good false, slot] }
    (s.held = false ∧ (s.port .S).up = true ∧ (s.port .S).rx = .receiving f ∧ frameGood f.bytes = false
      ∧ f.inSlot = true ∧ (s.port (otherPort .S)).buf = [] ++ [slot] ∧ (s.port (otherPort .S)).tx = .transit 1)
    ∧ (u.held = false ∧ (u.port .S).up = true ∧ (u.port .S).rx = .receiving f
      ∧ (u.port (otherPort .S)).buf = [slotOf .good false] ++ [slot])
    ∧ ((running.setRx .S (.receiving g)).port .S).rx = .receiving g ∧ g.inSlot = false := by decide +kernel

theorem witness_BadFrameLeavesItsSlot_empty :
    running.held = false ∧ (running.port .S).up = true ∧ (running.port .S).rx = .idle := by decide +kernel

/-- An idle port with each combination of candidates; the end of an insert and of a transit frame, and a transit frame still
arriving. -/
theorem witness_ArbiterChoosesAtBoundary :
    let f : InsertFrame := ⟨.command .protect, passing⟩
    let idle (ins : List InsertFrame) (buf : List TransitSlot) := running.modPort .F fun q => { q with ins := ins, buf := buf }
    let sends (tx : Tx) (c : CheckState) := running.modPort .F fun q => { q with buf := [slotOf c true], tx := tx }
    (∀ ins ∈ [[], [⟨.command .normal, passing⟩], [f]], ∀ buf ∈ [[], [slotOf .good false], [slotOf .good true]],
      (idle ins buf).held = false ∧ (idle ins buf).portF.up = true ∧ (idle ins buf).portF.tx = .idle
        ∧ (idle ins buf).portF.ins = ins ∧ (idle ins buf).portF.buf = buf)
    ∧ ((sends (.insert f 11) .good).portF.tx = .insert f 11 ∧ (sends (.insert f 11) .good).portF.up = true)
    ∧ ∀ c ∈ [CheckState.good, .pending], (sends (.transit 11) c).held = false ∧ (sends (.transit 11) c).portF.up = true
      ∧ (sends (.transit 11) c).portF.tx = .transit 11 ∧ (sends (.transit 11) c).portF.buf = slotOf c true :: []
      ∧ (slotOf c true).check = c := by decide +kernel

/-- LINK_DOWN of a port that is idle, sends an insert or a transit frame, and receives a frame whose copy is under way on the
other port, behind another frame there, or in no slot; LINK_UP of a port that is DOWN. -/
theorem witness_ArbiterChoosesAtBoundary_link :
    let f : RxFrame := ⟨[0x10, 9, 3], .cut, 8, true⟩
    let slot : TransitSlot := ⟨[0x10, 9, 3], .cut, 2, .pending, true⟩
    let copied := (running.setRx .S (.receiving f)).modPort .F fun q => { q with buf := [slot], tx := .transit 1 }
    let behind := (running.setRx .S (.receiving f)).modPort .F fun q => { q with buf := [slotOf .good false, slot] }
    let sends (tx : Tx) := running.modPort .S fun q => { q with buf := [slotOf .good true], tx := tx }
    let down := running.modPort .F fun q => { q with up := false }
    (∀ p ∈ [Port.S, .F], running.held = false ∧ (running.port p).up = true ∧ (running.port p).tx = .idle
      ∧ (running.port p).rx = .idle)
    ∧ (copied.portS.up = true ∧ copied.portS.rx = .receiving f ∧ f.inSlot = true ∧ copied.portF.buf = [] ++ [slot]
      ∧ copied.portF.tx = .transit 1)
    ∧ (behind.portS.rx = .receiving f ∧ behind.portF.buf = [slotOf .good false] ++ [slot])
    ∧ ((sends (.insert ⟨.notice, passing⟩ 3)).portS.tx = .insert ⟨.notice, passing⟩ 3
      ∧ (sends (.transit 3)).portS.tx = .transit 3 ∧ (sends (.transit 3)).portS.buf = slotOf .good true :: [])
    ∧ down.held = false ∧ (down.port .F).up = false := by decide +kernel

/-- The last byte before the check, and the first check byte; a port DOWN, and one whose transit frame meets no PROTECT. -/
theorem witness_ProtectPreemptsTransit :
    let at_ (n : Nat) := running.modPort .F fun q => { q with buf := [slotOf .good true], tx := .transit n }
    let down := running.modPort .F fun q => { q with up := false }
    (∀ n ∈ [8, 9], (at_ n).fullNode = true ∧ (at_ n).portF.up = true ∧ (at_ n).portF.tx = .transit n
      ∧ (at_ n).portF.buf = slotOf .good true :: [] ∧ (n = 8 → n < 6 + lengthField (slotOf .good true).bytes)
      ∧ (n = 9 → 6 + lengthField (slotOf .good true).bytes ≤ n)
      ∧ (at_ n).portF.ins.head?.any InsertFrame.isProtect = false)
    ∧ down.fullNode = true ∧ down.portF.up = false ∧ running.portF.tx = .idle := by decide +kernel

theorem witness_FormedFramesPassPoisonedFail : (List.replicate 248 (1 : Byte)).length ≤ 248 := by decide +kernel

/-- The sixteenth frame has room, the seventeenth has not. -/
theorem witness_RepliesAndNoticesEnterOrAreCounted :
    let held_ (n : Nat) := running.modPort .S fun q => { q with ins := List.replicate n ⟨.notice, passing⟩ }
    ((held_ 15).fullNode = true ∧ (held_ 15).portS.up = true ∧ (held_ 15).portS.ins.length < 16)
    ∧ ((held_ 16).fullNode = true ∧ 16 ≤ (held_ 16).portS.ins.length) := by decide +kernel

/-! #### Invariants -/

theorem witness_StepKeepsChainSafe : ∃ t : State, ChainSafe running ∧ step running = .next t := by
  obtain ⟨t, h⟩ := step_next running
  exact ⟨t, ⟨⟨by decide, by decide, by decide⟩, ⟨by decide, by decide, by decide⟩, by decide, by decide⟩, h⟩

theorem setOf_flights {a : Stage} (s : State) (h : s.stages = Vector.replicate 24 resetStage) (hf : a.inFlight = none)
    (k : StageIx) : ((setOf s a).stage k).inFlight = none := by
  rw [setOf_stage s h]; split
  · exact hf
  · rfl

theorem switchingSafe_setOf {a : Stage} (s : State) (h : s.stages = Vector.replicate 24 resetStage) (hf : a.inFlight = none)
    (hc : a.state ≠ .closing) (ho : a.state ≠ .opening) (hq : s.queue = [])
    (hh : s.held = false) (ht : s.tag ≠ 0) : SwitchingSafe (setOf s a) := by
  have hn := setOf_flights s h hf
  have hz : (setOf s a).closeFlights = 0 := by
    simp [State.closeFlights, State.inFlightOf, hn]
  have hst : ∀ k, ((setOf s a).stage k).state ≠ .closing ∧ ((setOf s a).stage k).state ≠ .opening := by
    intro k; rw [setOf_stage s h]; split
    · exact ⟨hc, ho⟩
    · exact ⟨by decide, by decide⟩
  refine ⟨?_, ?_, ?_, ?_, ?_, ?_, ?_, ?_, ht⟩
  · simp [setOf, hq]
  · simp [setOf, hq]
  · intro k; simp [hn k, (hst k).1]
  · intro k; simp [hn k, (hst k).2]
  · intro k; simp [hn k]
  · rw [hz]; exact Nat.zero_le _
  · intro _; exact ⟨by simp [setOf, hq], hn⟩
  · intro e; have : s.held = true := e; rw [hh] at this; exact absurd this (by decide)

theorem switchingSafe_closedOne : SwitchingSafe closedOne := by
  have h := switchingSafe_setOf (a := closedStage) { service with inService := [0] } rfl rfl (by decide) (by decide) rfl
    rfl (by decide)
  exact h

theorem witness_StepKeepsSwitchingSafe : ∃ t : State, SwitchingSafe closedOne ∧ step closedOne = .next t := by
  obtain ⟨t, h⟩ := step_next closedOne
  exact ⟨t, switchingSafe_closedOne, h⟩

theorem closedOne_stage (k : StageIx) : closedOne.stage k = if k = 0 then closedStage else resetStage :=
  setOf_stage service rfl closedStage k

theorem witness_StepKeepsInServiceSafe : ∃ t : State, InServiceSafe closedOne ∧ step closedOne = .next t := by
  obtain ⟨t, h⟩ := step_next closedOne
  refine ⟨t, ⟨by decide, fun k => ?_⟩, h⟩
  rw [closedOne_stage]
  by_cases hk : k = 0
  · simp [hk, closedOne, closedStage]
  · simp [hk, closedOne, resetStage]

theorem witness_StepKeepsMapSafe : ∃ t : State, MapSafe mappedOne ∧ step mappedOne = .next t := by
  obtain ⟨t, h⟩ := step_next mappedOne
  refine ⟨t, ⟨by decide, fun r => ?_, by decide, by decide, by decide, by decide⟩, h⟩
  exact le_trans (List.length_filter_le _ _) (by decide)

theorem witness_StepKeepsCaptureSafe : ∃ t : State, CaptureSafe running ∧ step running = .next t := by
  obtain ⟨t, h⟩ := step_next running
  exact ⟨t, ⟨by decide, by decide, by decide, by decide⟩, h⟩

theorem witness_StepKeepsCountersSafe : ∃ t : State, CountersSafe running ∧ step running = .next t := by
  obtain ⟨t, h⟩ := step_next running
  exact ⟨t, by unfold CountersSafe; decide, h⟩

/-! #### Chapters 2 and 3 -/

/-- An unmapped source; a malformed payload; the smallest late differences 0 and 32768; the smallest and the greatest
difference accepted, and a source without a last counter. -/
theorem witness_SampleFramesByTheOrderingTest :
    let first : State := { mappedOne with sources := [⟨40, .lost, none, 0, 0, none, 0⟩] }
    (∀ x ∈ mappedOne.sources, x.addr ≠ 41) ∧ (∃ x ∈ mappedOne.sources, x.addr = 40)
      ∧ byteAt ([0, 101, 0, 0] : List Byte) 3 = 0
      ∧ (∃ x ∈ mappedOne.sources, mappedOne.source? 40 = some x ∧ x.addr = 40 ∧ x.last = some 100
        ∧ acceptable x.last 101 = true ∧ x.status = .healthy ∧ x.streak ≤ 4)
      ∧ (∃ x ∈ first.sources, first.source? x.addr = some x ∧ x.last = none ∧ x.status ≠ .healthy
        ∧ acceptable x.last 7 = true)
      ∧ (let p : List Byte := [0, 100, 0, 1, 0, 0]
         1 ≤ (byteAt p 3).toNat ∧ (byteAt p 3).toNat ≤ 16 ∧ p.length = 4 + 2 * (byteAt p 3).toNat ∧ wordAt p 0 = 100)
      ∧ (let p : List Byte := [0x80, 100, 0, 1, 0, 0]
         p.length = 4 + 2 * (byteAt p 3).toNat ∧ 32768 ≤ (wordAt p 0 - 100).toNat)
      ∧ ∀ p ∈ [([0, 101, 0, 1, 0, 0] : List Byte), [0x80, 99, 0, 1, 0, 0]],
        1 ≤ (wordAt p 0 - 100).toNat ∧ (wordAt p 0 - 100).toNat ≤ 32767 := by decide +kernel

/-- A frame that completes a whole window, one of quality INVALID, one that goes on in its window, and one that jumps a window. -/
theorem witness_SampleFramesByTheOrderingTest_streak :
    let x : Source := ⟨40, .new, some 126, 0, 3, some 3, 31⟩
    let s : State := { mappedOne with sources := [x] }
    let f (q : Quality) (c : SampleCounter) : SampleFrame := ⟨c, q, [5]⟩
    (s.source? x.addr = some x ∧ acceptable x.last 127 = true ∧ acceptable x.last 160 = true)
    ∧ ((f .good 127).quality ≠ .invalid ∧ (∀ e ∈ s.map, e.source = x.addr → e.slot.val < (f .good 127).values.length)
      ∧ (f .invalid 127).quality = .invalid)
    ∧ (x.window = some (windowOf 127) ∧ (127 : SampleCounter).toNat % 32 = 31 ∧ 31 + 1 = 32)
    ∧ (x.window = some 3 ∧ x.last = some 126 ∧ 3 ≠ windowOf 160 ∧ ¬ ((3 : WindowIx) + 1 = windowOf 160
      ∧ (126 : SampleCounter).toNat % 32 = 31)) := by decide +kernel

/-- A window open for its serving source and for another, with a frame of the same window at its last counter and before it,
one of the window behind, and one of the window ahead. -/
theorem witness_WindowsAreAssembledAndCaptured :
    let o : OpenWindow := ⟨3, .primary, emptyPositions, false, false⟩
    let s := mappedOne.modRole (.busV .A) fun a => { a with openWin := some o }
    let e : MapEntry := ⟨40, 0, some (.busV .A), 4096, true⟩
    ((s.role (.busV .A)).openWin = some o ∧ servingEntry s.map (.busV .A) .primary = some e ∧ e.source = 40 ∧ e.source ≠ 41)
    ∧ (windowOf 127 = 3 ∧ (127 : SampleCounter).toNat % 32 = 31 ∧ windowOf 101 = 3 ∧ (101 : SampleCounter).toNat % 32 ≠ 31)
    ∧ (windowOf 95 ≠ 3 ∧ ahead (windowOf 95) 3 = false) ∧ ahead (windowOf 128) 3 = true := by decide +kernel

/-- No window open: the handed-over window not behind, behind, and absent; a HEALTHY primary, a HEALTHY backup, and no
serving entry; the role examined at the yard window index, and not. -/
theorem witness_WindowsAreAssembledAndCaptured_opening :
    let handed := mappedOne.modRole (.busV .A) fun a => { a with handed := some (3, 0) }
    let lost : State := { mappedOne with
      map := mappedOne.map ++ [⟨41, 0, some (.busV .A), 4096, false⟩]
      sources := [⟨40, .lost, none, 0, 0, none, 0⟩, ⟨41, .healthy, none, 0, 4, none, 0⟩] }
    ((handed.role (.busV .A)).openWin = none ∧ (handed.role (.busV .A)).handed = some (3, 0) ∧ ahead 3 3 = false
      ∧ ahead 4 3 = true ∧ (mappedOne.role (.busV .A)).handed = none)
    ∧ mappedOne.chooseServing (.busV .A) = .primary ∧ lost.chooseServing (.busV .A) = .backup
    ∧ running.chooseServing (.busV .A) = .none
    ∧ (servingEntry lost.map (.busV .A) .backup).map (·.source) = some 41
    ∧ (mappedOne.sourceHealthy 40 = true ∧ mappedOne.yardIx = none ∧ mappedOne.sourceHealthy 41 = false)
    ∧ (3 : WindowIx) = 4 - 1 ∧ ((3 : WindowIx) ≠ 5 - 1 ∧ ahead 3 (5 - 1) = false) := by decide +kernel

/-- A capture of one channel that takes a window in: ahead of the front in each state, at the sixteenth window, equal to a
stored one, and behind the front; a role without a channel, and a held record. -/
theorem witness_WindowsAreAssembledAndCaptured_capture :
    let of_ (st : CaptureStatus) (n : Nat) : State := { mappedOne with
      cap := { resetCapture with
        status := st, store := (List.range n).map fun i => ⟨BitVec.ofNat 11 i, [unfilledPiece]⟩ } }
    (∀ st ∈ [CaptureStatus.disarmed, .armed, .recording], ∀ n ∈ [1, 16], (of_ st n).cap.status ≠ .held
      ∧ (∃ ch ∈ (of_ st n).channels, ch.role = .busV .A) ∧ (of_ st n).cap.store.length = n
      ∧ ∃ x, (of_ st n).cap.store.getLast? = some x ∧ ahead 16 x.w = true ∧ ahead x.w x.w = false)
    ∧ (of_ .recording 0).cap.store.getLast? = none
    ∧ (∀ x ∈ (of_ .recording 1).cap.store, x.w ≠ 2047) ∧ ahead 2047 0 = false
    ∧ (of_ .held 1).cap.status = .held ∧ (running.channels = []) := by
  refine ⟨fun st hs n hn => ?_, by decide +kernel, by decide +kernel, by decide, by decide, by decide⟩
  simp only [List.mem_cons, List.not_mem_nil, or_false] at hs hn
  rcases hs with rfl | rfl | rfl <;> rcases hn with rfl | rfl <;>
    exact ⟨by decide, ⟨⟨.busV .A, 40, 0⟩, by decide, rfl⟩, by decide, ⟨_, rfl, by decide +kernel, by decide +kernel⟩⟩

/-- A recording with a header whose sixteenth window is whole, and one whose sixteenth window is not. -/
theorem witness_WindowsAreAssembledAndCaptured_complete :
    let h : RecordHeader := ⟨.request, none, none, 0, 15, [⟨.busV .A, 40, 0⟩], 0⟩
    let of_ (p : Piece) : State := { mappedOne with cap := { resetCapture with
      status := .recording, header := some h, store := (List.range 16).map fun i => ⟨BitVec.ofNat 11 i, [p]⟩ } }
    let whole (s : State) : Bool := s.cap.store.getLast?.any fun x => decide (x.w = 15) && x.pieces.all (·.received)
    ∀ p ∈ [unfilledPiece, { unfilledPiece with received := true }], (of_ p).cap.status = .recording
      ∧ (of_ p).cap.header = some h ∧ (of_ p).cap.store.length = 16 ∧ whole (of_ p) = p.received := by
  intro h of_ whole p hp
  simp only [List.mem_cons, List.not_mem_nil, or_false] at hp
  rcases hp with rfl | rfl <;> exact ⟨rfl, rfl, rfl, rfl⟩

theorem witness_ScalingFloorsAndSaturates :
    let e : MapEntry := ⟨40, 0, none, 6554, false⟩
    let f : SampleFrame := ⟨0, .good, [-21000]⟩
    f.quality ≠ .invalid ∧ f.values[e.slot.val]? = some (-21000) ∧ (-33603 : Int) * 4096 ≤ -21000 * e.gain.toNat
      ∧ -21000 * (e.gain.toNat : Int) < (-33603 + 1) * 4096 := by decide +kernel

/-- Outside CONFIG, a map without a capture channel, and one with it in each state of capture, the recording with windows and
without. -/
theorem witness_ClearMapEmptiesIntake :
    let h : RecordHeader := ⟨.request, none, none, 0, 0, [⟨.busV .A, 40, 0⟩], 0⟩
    let of_ (st : CaptureStatus) (store : List CaptureWindow) : State :=
      { mappedOne with cap := { resetCapture with status := st, store := store, header := some h } }
    (running.executes ∧ running.mode = .config ∧ service.executes ∧ service.mode ≠ .config ∧ running.map = [])
    ∧ ∀ st ∈ [CaptureStatus.disarmed, .armed, .recording, .held], ∀ store ∈ [[], [⟨3, [unfilledPiece]⟩]],
      (of_ st store).executes ∧ (of_ st store).mode = .config
        ∧ (∃ e ∈ (of_ st store).map, e.capture = true ∧ e.role ≠ none) ∧ (of_ st store).cap.status = st
        ∧ (of_ st store).cap.store = store ∧ (of_ st store).cap.header = some h :=
  ⟨⟨executes_running, rfl, executes_service, by decide, rfl⟩, fun _ _ _ _ =>
    ⟨⟨rfl, (by decide : running.fullNode = true)⟩, rfl,
      ⟨⟨40, 0, some (.busV .A), 4096, true⟩, List.mem_singleton.mpr rfl, rfl, by decide⟩, rfl, rfl, rfl⟩⟩

theorem witness_AppendMapStoresOneEntry :
    let w : MapEntryWrite := ⟨40, 15, 1, 4096, true⟩
    running.executes ∧ running.mode = .config ∧ running.map.length < 64 ∧ running.sources.length < 8 ∧ w.source ≠ 0
      ∧ w.source ≠ 255 ∧ w.slot.toNat < 16 ∧ roleOfCode w.role = some (some (.busV .A))
      ∧ (∀ r, some (Role.busV .A) = some r → (entriesOf running.map r).length < 2)
      ∧ ∀ e ∈ running.map, ¬ (e.source = w.source ∧ e.slot = ⟨15, by decide⟩) :=
  ⟨executes_running, rfl, by decide, by decide, by decide, by decide, by decide, by decide,
    fun r _ => lt_of_le_of_lt (List.length_filter_le _ _) (by decide), fun e h => absurd h (by simp [running, State.reset])⟩

/-- The flag kept, and cleared for FORWARD_ONLY. -/
theorem witness_AppendMapStoresOneEntry_flag :
    let kept (role : Option Role) := true && role.isSome && decide ((running.map.filter (·.capture)).length < 8)
    kept (some (.busV .A)) = true ∧ kept none = false ∧ roleOfCode 255 = some none := by decide

theorem witness_RmsInFourSteps :
    (List.replicate 32 (-32768 : Int)).length = 32 ∧ ∀ x ∈ List.replicate 32 (-32768 : Int), -32768 ≤ x ∧ x ≤ 32767 := by
  decide +kernel

/-- A candidate window no slot holds, and one the needed role's slot holds. -/
theorem witness_EvaluationTakesEachWindowOnce :
    let s := service.modEval (.busHarmonic .A) fun a => { a with cand := some 7 }
    let u := s.modRole (.busV .A) fun a => { a with newest := some ⟨7, .none, false, false, false, none, none⟩ }
    running.mode = .config ∧ (s.eval (.busHarmonic .A)).cand = some 7 ∧ s.evaluable (.busHarmonic .A) 7 = false
      ∧ (u.eval (.busHarmonic .A)).cand = some 7 ∧ u.evaluable (.busHarmonic .A) 7 = true := by decide +kernel

/-- An element that runs, without a window and with one. -/
theorem witness_EvaluationTakesEachWindowOnce_first :
    let s := service.modEval .voltage fun a => { a with last := some 6 }
    service.mode ≠ .config ∧ (service.eval .voltage).last = none ∧ (service.eval .voltage).cand = none
      ∧ s.mode ≠ .config ∧ (s.eval .voltage).last ≠ none := by decide +kernel

theorem witness_FrequencyFromFiveCrossings :
    (50000 = 50000 ∨ 50000 = (60000 : Nat)) ∧ resetTracker.crossings.length ≠ 5
      ∧ ({ resetTracker with crossings := [1, 2, 3, 4, 2069] } : Tracker).crossings = [1, 2, 3, 4, 2069] := by decide

/-- A crossing onto 0 with room in the list and without; the 64th sample since the newest crossing and the one before; a
window that follows the last sample's round the end of the indices, one that does not, and one not served. -/
theorem witness_FrequencyFromFiveCrossings_walk :
    let t (n since : Nat) : Tracker := ⟨List.replicate n 7, some (65535, -5), since, none, none⟩
    let c (b : ServedBy) (w : WindowIx) : ClosedWindow := ⟨w, b, true, false, false, List.replicate 32 (some 0)⟩
    (∀ n ∈ [4, 5], (t n 63).last = some ((0 : SampleCounter) - 1, -5) ∧ (-5 : Int) < 0 ∧ (0 : Int) ≤ 0
      ∧ (t n 63).crossings.length = n)
    ∧ ((t 1 62).since + 1 < 64 ∧ ¬ (t 1 63).since + 1 < 64 ∧ (t 1 63).crossings ≠ [] ∧ (-1 : Int) < 0)
    ∧ ((c .primary 0).pos.length = 32 ∧ (c .primary 0).by_ ≠ .none ∧ (c .none 0).by_ = .none
      ∧ ((65535 : SampleCounter).toNat / 32 + 1) % 2048 = (0 : WindowIx).toNat
      ∧ ((65535 : SampleCounter).toNat / 32 + 1) % 2048 ≠ (1 : WindowIx).toNat ∧ resetTracker.last = none) := by
  decide +kernel

/-- A role without a harmonic part, and one with it. -/
theorem witness_HarmonicAvailability : (∃ k, Role.neutralI 3 = .neutralI k) ∧ (∀ k, Role.busV .A ≠ .neutralI k)
    ∧ ∃ h, (slotValues [5] (.busV .A) (List.replicate 32 0)).harm = some h :=
  ⟨⟨3, rfl⟩, fun _ => by simp, ⟨_, rfl⟩⟩

theorem witness_ReadMeasurementsAnswers : running.executes := executes_running

/-- The timers due, on one running part, and a store empty at the very tick and after it. -/
theorem witness_IntakeTimersActWhenDue :
    let s : State := { mappedOne with
      now := 10000, yardIx := some (3, 0), mode := .service
      cap := { resetCapture with
        taken := some 0, store := [⟨3, []⟩], status := .recording, header := some ⟨.request, none, none, 0, 0, [], 0⟩ } }
    let empty : State := { s with cap := { s.cap with store := [] } }
    s.held = false ∧ s.source? 41 = none
      ∧ (∃ x ∈ s.sources, s.source? 40 = some x ∧ x.status ≠ .lost ∧ 8 ≤ (s.now - x.arrival).toNat)
      ∧ (∃ x ∈ mappedOne.sources, mappedOne.source? 40 = some x ∧ (mappedOne.now - x.arrival).toNat < 8)
      ∧ s.cap.taken = some 0 ∧ s.cap.store ≠ [] ∧ 10000 ≤ (s.now - 0).toNat ∧ s.cap.status = .recording
      ∧ empty.cap.taken = some 0 ∧ empty.cap.store = [] ∧ (empty.now - 0).toNat = 10000 ∧ empty.cap.status = .recording
      ∧ s.cap.header = some ⟨.request, none, none, 0, 0, [], 0⟩ ∧ mappedOne.cap.taken = none := by decide +kernel

theorem witness_IntakeTimersActWhenDue_window :
    let s := mappedOne.modRole (.busV .A) fun a => { a with openWin := some ⟨3, .primary, emptyPositions, false, false⟩ }
    (s.role (.busV .A)).openWin = some ⟨3, .primary, emptyPositions, false, false⟩
      ∧ servingEntry s.map (.busV .A) .primary = some ⟨40, 0, some (.busV .A), 4096, true⟩ := by decide +kernel

/-! #### Chapter 4 -/

theorem witness_WriteStageClampsItsSettings :
    let w : StageWrite := ⟨true, 255, 200, 0, 5, 0, 0, 0, 0, some (0x8000, 5), [2, 2], 2000, 0, 0⟩
    let v : StageWrite := { w with unit := 0, compensation := none }
    w.compensation = some (0x8000, 5) ∧ w.unit = 255 ∧ v.unit = 0 ∧ v.compensation = none := by decide

/-- An index above 23, the last index, and a list of 15 orders. -/
theorem witness_WriteStageChecksInOrder :
    running.executes ∧ 23 < (24 : Byte).toNat ∧ (23 : Byte).toNat = (23 : StageIx).val
      ∧ 14 < (List.replicate 15 (2 : Byte)).length ∧ (List.replicate 14 (2 : Byte)).length ≤ 14 :=
  ⟨executes_running, by decide, by decide, by decide, by decide⟩

/-- Enabling from each reported position, disabling, a change of address of an enabled stage, and a WRITE STAGE that passes
its checks. -/
theorem witness_WriteStageActsOnLiveState :
    let c : StageSettings := { resetSettings with enabled := true, unit := some 40 }
    let w : StageWrite := ⟨true, 40, 1, 20, 10, 50, 3, 100, 3, none, [5], 100, 3, 0⟩
    (resetStage.cfg.enabled = false ∧ c.enabled = true ∧ resetStage.cfg.unit ≠ c.unit)
    ∧ (∀ p ∈ [Position.open, .closed, .moving, .unknown],
        let a : Stage := { resetStage with cfg := { resetSettings with unit := some 40 }, reported := some p }
        a.cfg.enabled = false ∧ a.cfg.unit = c.unit ∧ a.reported = some p)
    ∧ (enabledStage.cfg.enabled = true ∧ resetSettings.enabled = false)
    ∧ (enabledStage.cfg.enabled = true ∧ enabledStage.cfg.unit ≠ some 41)
    ∧ running.executes ∧ (0 : Byte).toNat = (0 : StageIx).val ∧ w.orders.length ≤ 14
    ∧ running.writeStageCheck 0 (clampedStage w) = none :=
  ⟨by decide, by decide, by decide, by decide, executes_running, by decide, by decide, by decide +kernel⟩

theorem witness_BlockAndUnblock :
    running.executes ∧ 23 < (24 : Byte).toNat ∧ (23 : Byte).toNat = (23 : StageIx).val :=
  ⟨executes_running, by decide, by decide⟩

/-- Every state of a stage that a RELEASE acts on, with its cooldown left and without. -/
theorem witness_ReleaseByState :
    running.executes ∧ 23 < (24 : Byte).toNat ∧ (0 : Byte).toNat = (0 : StageIx).val
      ∧ (∀ n ∈ [0, 5], let s := setOf running { enabledStage with state := .lockedOut, reported := some .open, cooling := n }
         s.executes ∧ (s.stage 0).state = .lockedOut ∧ (s.stage 0).reported = some .open ∧ (s.stage 0).cooling = n)
      ∧ (∀ l ∈ [false, true],
         let a : Stage := { enabledStage with state := .failed, reported := some .open, lockoutPending := l }
         a.state = .failed ∧ a.reported = some .open ∧ a.lockoutPending = l)
      ∧ (let a : Stage := { enabledStage with state := .failed, reported := some .closed }
         a.state = .failed ∧ a.reported = some .closed ∧ a.lockoutPending = false) := by
  refine ⟨executes_running, by decide, by decide, fun n _ => ⟨⟨rfl, (by decide : running.fullNode = true)⟩, ?_⟩, by decide,
    by decide⟩
  have h : (setOf running { enabledStage with state := .lockedOut, reported := some .open, cooling := n }).stage 0
      = { enabledStage with state := .lockedOut, reported := some .open, cooling := n } := setOf_stage running rfl _ 0
  rw [h]; exact ⟨rfl, rfl, rfl⟩

/-- For each clause, a stage in the state it names. -/
theorem witness_IdleReportsChangeState :
    ∀ st ∈ [StageState.closed, .openReady, .openCooling, .failed], ∀ l ∈ [false, true],
      let s := setOf service { closedStage with state := st, lockoutPending := l }
      (s.stage 0).cfg.enabled = true ∧ (s.stage 0).inFlight = none ∧ (s.stage 0).awaiting = false ∧ (s.stage 0).state = st
        ∧ (s.stage 0).lockoutPending = l ∧ (s.stage 0).moving = none := by decide +kernel

/-- A malformed payload of each kind, one of each position and tag result, a unit no record has, and a record not enabled. -/
theorem witness_IdleReportsChangeState_intake :
    ([1, 0] : List Byte).length ≠ 3 ∧ 3 < (byteAt [4, 0, 0] 0).toNat ∧ 2 < (byteAt [3, 0, 3] 2).toNat
      ∧ (∀ pos ∈ [Position.open, .closed, .moving, .unknown], ∀ n ∈ [(0 : Byte), 1, 2],
        let p : List Byte := [BitVec.ofNat 8 (positionCode pos), 7, n]
        p.length = 3 ∧ byteAt p 0 = BitVec.ofNat 8 (positionCode pos) ∧ (byteAt p 0).toNat ≤ 3 ∧ byteAt p 2 = n)
      ∧ (∀ k, (running.stage k).cfg.unit ≠ some 40) ∧ (closedOne.stage 0).cfg.unit = some 40
      ∧ (running.stage 0).cfg.enabled = false :=
  ⟨by decide, by decide, by decide, by decide, fun k => by rw [running_stage]; decide, by decide +kernel, by decide +kernel⟩

/-- A stage awaiting its position; one in LOCKED_OUT reported closed in CONFIG and in SERVICE, with its cooldown left and
without; one reported CLOSED that leaves it, under a lockout and without. -/
theorem witness_IdleReportsChangeState_forms :
    (let s := setOf service { enabledStage with state := .openCooling, awaiting := true }
     (s.stage 0).cfg.enabled = true ∧ (s.stage 0).inFlight = none ∧ (s.stage 0).awaiting = true)
    ∧ (∀ base ∈ [running, service], ∀ n ∈ [0, 1],
      let s := setOf base { enabledStage with state := .lockedOut, reported := some .open, cooling := n }
      (s.stage 0).cfg.enabled = true ∧ (s.stage 0).inFlight = none ∧ (s.stage 0).awaiting = false
        ∧ (s.stage 0).state = .lockedOut ∧ (s.stage 0).cooling = n ∧ s.mode = base.mode)
    ∧ ∀ l ∈ [false, true],
      let s := setOf service { closedStage with
        lockoutPending := l, unbalanceAlarm := true, overload := true, unb := ⟨none, true, 3, 2, some ⟨5, 4, 4⟩⟩ }
      (s.stage 0).cfg.enabled = true ∧ (s.stage 0).inFlight = none ∧ (s.stage 0).reported = some .closed
        ∧ (s.stage 0).stable = some .closed ∧ (s.stage 0).lockoutPending = l := by decide +kernel

/-- Each timer exactly due, and one tick before. -/
theorem witness_StageTimersActWhenDue :
    let a : Stage := { enabledStage with
      state := .openCooling, moving := some ⟨0, 300⟩, silenceFrom := 0, cooling := 0, reported := some .open }
    let s : State := { setOf service a with now := 1000 }
    let u : State := { setOf service a with now := 299 }
    s.held = false ∧ (s.stage 0).moving = some ⟨0, 300⟩ ∧ (s.stage 0).cfg.enabled = true ∧ 300 ≤ (s.now - 0).toNat
      ∧ (s.stage 0).silent = false ∧ s.link.silence ≤ (s.now - (s.stage 0).silenceFrom).toNat
      ∧ (s.stage 0).state = .openCooling ∧ (s.stage 0).awaiting = false ∧ (s.stage 0).cooling = 0
      ∧ u.held = false ∧ (u.now - 0).toNat < 300 ∧ (u.now - (u.stage 0).silenceFrom).toNat < u.link.silence
      ∧ (running.stage 0).cfg.enabled = false ∧ (running.stage 0).moving = none := by decide +kernel

/-! #### Chapter 5 -/

def entry (op : Operation) (cls : CmdClass) : QueueEntry := ⟨0, op, cls, .voltage, 0⟩

/-- No entry, an entry of each operation and class, CONFIG. -/
theorem witness_GatheringByItsTable :
    running.mode = .config ∧ closedOne.mode ≠ .config ∧ closedOne.entryOf 0 = none
      ∧ ∀ op ∈ [Operation.open, .close], ∀ cls ∈ [CmdClass.normal, .protect],
        let s : State := { closedOne with queue := [entry op cls] }
        s.mode ≠ .config ∧ s.entryOf 0 = some (entry op cls) := by decide +kernel

/-- A queue whose oldest PROTECT entry may go, one whose oldest NORMAL entry may, and a CLOSE that pacing lets go. -/
theorem witness_SelectionRunsOut :
    let s : State := { readyOne with queue := [entry .close .normal] }
    let p : State := { closedOne with queue := [entry .open .protect] }
    (s.mode ≠ .config ∧ s.portF.ins.length < 8 ∧ s.queue = [] ++ entry .close .normal :: []
      ∧ (s.stage 0).inFlight = none ∧ (s.stage 0).state = .openReady ∧ (s.stage 0).lockoutPending = false
      ∧ s.closeFlights < s.link.closeLimit ∧ s.lastClose = none)
    ∧ p.mode ≠ .config ∧ p.portF.ins.length < 8 ∧ p.queue = [] ++ entry .open .protect :: []
      ∧ (p.stage 0).inFlight = none
    ∧ running.fullNode = true ∧ running.portF.up = true ∧ running.portF.tx = .idle := by decide +kernel

/-- A CLOSE reached whose stage cools, alone and behind one that pacing holds back. -/
theorem witness_SelectionRunsOut_notReady :
    let s : State := { setOf service { readyStage with state := .openCooling } with queue := [entry .close .normal] }
    let u : State := { s with
      stages := s.stages.set 1 readyStage
      queue := [{ entry .close .normal with stage := 1 }, entry .close .normal], lastClose := some 0 }
    (s.mode ≠ .config ∧ s.portF.ins.length < 8 ∧ s.queue = [] ++ entry .close .normal :: []
      ∧ (s.stage 0).inFlight = none ∧ s.queue.Pairwise (fun x y => x.stage ≠ y.stage)
      ∧ (∀ x ∈ s.queue, x.cls ≠ .protect) ∧ (s.stage 0).state ≠ .openReady)
    ∧ u.queue = [{ entry .close .normal with stage := 1 }] ++ entry .close .normal :: []
      ∧ u.queue.Pairwise (fun x y => x.stage ≠ y.stage) ∧ (∀ x ∈ u.queue, x.cls ≠ .protect)
      ∧ (u.stage 1).inFlight = none ∧ (u.stage 1).state = .openReady ∧ (u.stage 1).lockoutPending = false
      ∧ u.lastClose = some 0 ∧ (u.now - 0).toNat < u.link.closeGap ∧ (u.stage 0).state ≠ .openReady := by decide +kernel

/-- An operation in flight that a report completes, fails and does neither. -/
theorem witness_OperationsCompleteOrFail :
    (openingOne.stage 0).cfg.enabled = true ∧ (openingOne.stage 0).inFlight = some openFlight ∧ openingOne.hasEntry 0 = false
      ∧ (∃ r : PositionReport, r.tag = openFlight.tag ∧ r.result = .accepted ∧ r.pos = .open ∧ openFlight.op = .open)
      ∧ (∃ r : PositionReport, r.tag = openFlight.tag ∧ r.result = .refused)
      ∧ ∃ r : PositionReport, r.tag ≠ openFlight.tag ∧ r.pos = .moving :=
  ⟨by decide +kernel, by decide +kernel, by decide +kernel, ⟨⟨.open, 7, .accepted⟩, by decide⟩,
    ⟨⟨.closed, 7, .refused⟩, by decide⟩, ⟨⟨.moving, 0, .none⟩, by decide⟩⟩

/-- A stage with an operation in flight and an entry queued behind it; an entry that is the reported position, and one that is
not. -/
theorem witness_OperationsCompleteOrFail_queued :
    let s : State := { openingOne with queue := [entry .close .normal] }
    let u (op : Operation) : State := { readyOne with queue := [entry op .normal] }
    ((s.stage 0).cfg.enabled = true ∧ (s.stage 0).inFlight = some openFlight ∧ s.hasEntry 0 = true
      ∧ (s.stage 0).reported = some .closed)
    ∧ ∀ op ∈ [Operation.open, .close], (u op).entryOf 0 = some (entry op .normal) ∧ ((u op).stage 0).inFlight = none
      ∧ ((u op).stage 0).reported = some .open := by decide +kernel

/-- The deadline exactly reached, and one tick before; the close gap exactly run out. -/
theorem witness_SupervisorTimersActWhenDue :
    let s : State := { openingOne with now := 150 }
    let u : State := { openingOne with now := 149 }
    let v : State := { service with now := 500, lastClose := some 0 }
    s.held = false ∧ (s.stage 0).inFlight = some openFlight ∧ s.hasEntry 0 = false
      ∧ (openFlight.deadline - openFlight.sent).toNat ≤ (s.now - openFlight.sent).toNat
      ∧ (u.now - openFlight.sent).toNat < (openFlight.deadline - openFlight.sent).toNat
      ∧ (closedOne.stage 0).inFlight = none
      ∧ v.held = false ∧ v.lastClose = some 0 ∧ (v.now - 0).toNat = v.link.closeGap ∧ s.lastClose = none := by
  decide +kernel

theorem witness_ManualRequestsCheckInOrder :
    closedOne.executes ∧ readyOne.executes ∧ openingOne.executes ∧ 23 < (24 : Byte).toNat
      ∧ (0 : Byte).toNat = (0 : StageIx).val :=
  ⟨executes_closedOne, executes_readyOne, executes_openingOne, by decide, by decide⟩

/-! #### Chapters 6 to 8 -/

/-- Above, below and inside the band, from either side of 0. -/
theorem witness_AccumulatorStaysWithinLevel :
    let c := { resetControlSet with level := 100 }
    ∀ acc ∈ [(-100 : Int), 0, 100], ({ resetVoltage with acc := acc } : VoltageState).acc.natAbs ≤ c.level
      ∧ c.setpoint + c.halfBand < 1021 ∧ 979 < c.setpoint - c.halfBand ∧ 1020 ≤ c.setpoint + c.halfBand := by decide +kernel

/-- A window without a usable phase and one with it; each control state; the accumulator at either end of the level, with a
candidate that fits and one that does not. -/
theorem witness_AccumulatorStaysWithinLevel_steps :
    let slot (rms : Nat) : ResultSlot := ⟨7, .primary, true, false, false, some ⟨rms, 0, 0, 0, 0, none⟩, none⟩
    let s : State := { closedOne with phases := ⟨true, false, false⟩ }
    let u := s.modRole (.busV .A) fun a => { a with newest := some (slot 1080) }
    let c : ControlSet := { resetControlSet with level := 100 }
    let full : State := { s with vc := { resetVoltage with acc := 100, fastPending := true } }
    let low : State := { readyOne with
      vc := { resetVoltage with acc := -100 }, map := [⟨40, 0, some (.neutralI 0), 4096, false⟩]
      sources := [⟨40, .healthy, none, 0, 4, none, 0⟩] }
    (s.phaseValues 7 = [] ∧ u.phaseValues 7 = [1080])
    ∧ (resetVoltage.ctl ≠ .suspended ∧ ({ resetVoltage with ctl := .suspended } : VoltageState).ctl = .suspended)
    ∧ (full.vc.acc = c.level ∧ low.vc.acc = -c.level ∧ full.vc.hold = 0
      ∧ full.vc.fastPending = true ∧ full.originStands [.fastRemoval] = false ∧ full.originStands [.voltage, .fastRemoval] = false
      ∧ full.removalCandidate = some 0 ∧ c.setpoint - c.halfBand + (full.stage 0).cfg.effect ≤ 1080
      ∧ ¬ c.setpoint - c.halfBand + (full.stage 0).cfg.effect ≤ 900
      ∧ low.originStands [.voltage, .fastRemoval] = false ∧ low.insertionCandidate = some 0
      ∧ 900 + (low.stage 0).cfg.effect ≤ c.setpoint + c.halfBand ∧ ¬ 1080 + (low.stage 0).cfg.effect ≤ c.setpoint + c.halfBand)
    ∧ (readyOne.removalCandidate = none ∧ running.vc.latch = false
      ∧ ({ resetVoltage with hold := 1 } : VoltageState).hold = 1) := by decide +kernel

/-- A removal candidate and an insertion candidate. -/
theorem witness_CandidatesAreFirstInOrder :
    closedOne.removalCandidate = some 0
      ∧ (let s : State := { readyOne with
           map := [⟨40, 0, some (.neutralI 0), 4096, false⟩], sources := [⟨40, .healthy, none, 0, 4, none, 0⟩] }
         s.insertionCandidate = some 0) := by decide +kernel

theorem witness_WriteControlStoresAndRestarts : running.executes ∧ service.executes := ⟨executes_running, executes_service⟩

/-- An element that evaluates, one below the low-voltage block, and stages that do not evaluate. -/
theorem witness_UnbalanceCountersMove :
    let v (re : Int) : ResultSlot := ⟨7, .primary, true, false, false, some ⟨0, re, 0, 0, 0, none⟩, none⟩
    let s (re : Int) := ((closedOne.modRole (.neutralI 0) fun a => { a with newest := some (v 150) }).modRole (.busV .A)
      fun a => { a with newest := some (v re) })
    (∀ re ∈ [(1000 : Int), 999], ((s re).stage 0).cfg.enabled = true ∧ ((s re).stage 0).reported = some .closed
      ∧ (s re).usable (.neutralI 0) 7 = some ⟨0, 150, 0, 0, 0, none⟩ ∧ (s re).usable (.busV .A) 7 = some ⟨0, re, 0, 0, 0, none⟩)
    ∧ magnitude 1000 0 = 1000 ∧ magnitude 999 0 < 1000
    ∧ (running.stage 0).cfg.enabled = false ∧ closedOne.usable (.neutralI 0) 7 = none := by decide +kernel

/-- The alarm counter brought to its delay, the dropout with the alarm set, under a lockout and without; the trip counter brought
to its delay and standing there; an OPEN in flight that answers ALREADY; a capture at its sixteenth window and before. -/
theorem witness_UnbalanceCountersMove_steps :
    let cfg : StageSettings := { closedStage.cfg with alarmLevel := 8, alarmDelay := 3, tripLevel := 20, tripDelay := 4 }
    let a (alarm l : Bool) (n : Nat) : Stage := { closedStage with
      cfg := cfg, unbalanceAlarm := alarm, lockoutPending := l, unb := ⟨none, false, 3, 4, some ⟨n, 20, -70⟩⟩ }
    let s (alarm l : Bool) (n : Nat) : State := setOf service (a alarm l n)
    let b := (s false false 16).stage 0
    (2 + 1 = b.cfg.alarmDelay ∧ b.unb.alarmCount = b.cfg.alarmDelay ∧ b.unbalanceAlarm = false)
    ∧ (∀ l ∈ [false, true], ((s true l 16).stage 0).unbalanceAlarm = true ∧ ((s true l 16).stage 0).lockoutPending = l
      ∧ 7 ≤ ((s true l 16).stage 0).cfg.alarmLevel * 15 / 16)
    ∧ (3 + 1 = b.cfg.tripDelay ∧ b.unb.tripCount = b.cfg.tripDelay ∧ 4 + 1 ≠ b.cfg.tripDelay)
    ∧ ((openingOne.gather 0 .open .protect .unbalanceTrip).2 = .already
      ∧ (closedOne.gather 0 .open .protect .unbalanceTrip).2 ≠ .already)
    ∧ (b.unb.capture = some ⟨16, 20, -70⟩ ∧ ((s false false 15).stage 0).unb.capture = some ⟨15, 20, -70⟩) := by
  decide +kernel

theorem witness_TripStandsUntilOpened :
    let a : Stage := { closedStage with unb := { resetUnbalance with tripCount := 600 } }
    let s := setOf service a
    SwitchingSafe s ∧ s.mode ≠ .config ∧ (s.stage 0).state ≠ .absent ∧ (s.stage 0).reported = some .closed
      ∧ (s.stage 0).unb.tripCount = (s.stage 0).cfg.tripDelay ∧ 599 + 1 = (s.stage 0).cfg.tripDelay := by
  refine ⟨switchingSafe_setOf service rfl rfl (by decide) (by decide) rfl rfl (by decide), ?_⟩
  decide +kernel

/-- A FAILED stage with lockout pending. -/
def pendingOne : State :=
  { setOf service { closedStage with state := .failed, lockoutPending := true } with inService := [0] }

theorem witness_TripStandsUntilOpened_law :
    (pendingOne.stage 0).lockoutPending = true ∧ ∃ t : State, SwitchingSafe pendingOne ∧ TripSafe pendingOne
      ∧ step pendingOne = .next t := by
  obtain ⟨t, h⟩ := step_next pendingOne
  have hs : ∀ k, pendingOne.stage k
      = if k = 0 then { closedStage with state := .failed, lockoutPending := true } else resetStage :=
    setOf_stage service rfl _
  refine ⟨by rw [hs]; rfl, t, switchingSafe_setOf { service with inService := [0] } rfl rfl (by decide) (by decide) rfl rfl
    (by decide), ⟨?_, fun e (he : e ∈ []) => absurd he List.not_mem_nil, fun e (he : e ∈ []) => absurd he List.not_mem_nil, ?_, ?_, ?_, ?_⟩, h⟩
  · intro k; rw [hs]; split <;> decide
  · intro k; rw [hs]; split <;> decide
  · intro k; rw [hs]; split <;> decide
  · intro k; rw [hs]; split <;> decide
  · intro k; rw [hs]; split
    · exact fun _ => Or.inl rfl
    · exact fun h => absurd h (by decide)

/-- A stage in LOCKED_OUT. -/
def lockedOne : State := setOf service { readyStage with state := .lockedOut }

theorem witness_TripStandsUntilOpened_lockout :
    (lockedOne.stage 0).state = .lockedOut ∧ (∀ r b, lockedOne.pending.head? ≠ some (.release r b))
      ∧ (∀ bs, lockedOne.pending.head? ≠ some (.frameReceived .S bs))
      ∧ SwitchingSafe lockedOne ∧ TripSafe lockedOne ∧ step lockedOne = .next lockedOne ∧ lockedOne.held = false := by
  have hs : ∀ k, lockedOne.stage k = if k = 0 then { readyStage with state := .lockedOut } else resetStage :=
    setOf_stage service rfl _
  have hp : lockedOne.pending = [] := rfl
  refine ⟨by rw [hs]; rfl, fun r b => by simp [hp], fun bs => by simp [hp],
    switchingSafe_setOf service rfl rfl (by decide) (by decide) rfl rfl (by decide),
    ⟨?_, fun e (he : e ∈ []) => absurd he List.not_mem_nil, fun e (he : e ∈ []) => absurd he List.not_mem_nil, ?_, ?_, ?_, ?_⟩,
    rfl, rfl⟩
  · intro k; rw [hs]; split <;> decide
  · intro k; rw [hs]; split <;> decide
  · intro k; rw [hs]; split <;> decide
  · intro k; rw [hs]; split <;> decide
  · intro k; rw [hs]; split <;> exact fun h => absurd h (by decide)

/-- A window a bus element and a stage element judge, and one they hold; each way a quantity and an overload counter move. -/
theorem witness_HarmonicElementsJudgeWindows :
    let slot : ResultSlot :=
      ⟨7, .primary, true, false, false, some ⟨1000, 0, 0, 0, 0, some ⟨[(5, 40)], some [40], some 40⟩⟩, some ⟨50000, 0, false⟩⟩
    let a : Stage := { closedStage with cfg := { closedStage.cfg with thdLimit := 40, thdDelay := 3 }, overCount := 2, bar := true }
    let base : State := { setOf service a with
      inService := [0], table := ⟨[(5, 40)], 40, 3, 5⟩
      alarms := Vector.replicate 3 ⟨[⟨2, 4, false⟩], ⟨2, 4, true⟩⟩ }
    let s := (base.modRole (.busV .A) fun r => { r with newest := some slot }).modRole (.stageI 0) fun r =>
      { r with newest := some slot }
    (s.judged (.busV .A) 7 = some ([40], some 40) ∧ s.judged (.stageI 0) 7 = some ([40], some 40)
      ∧ s.judged (.busV .B) 7 = none)
    ∧ ((s.getQuantity .A (some 0)).alarm = false ∧ (s.getQuantity .A none).alarm = true ∧ s.limitOf (some 0) = 40
      ∧ 0 < s.alarms[phaseIx .A].orders.length ∧ 40 ≤ 40 ∧ (s.getQuantity .A (some 0)).count + 1 = s.table.alarmDelay
      ∧ 37 ≤ s.limitOf none * 15 / 16 ∧ s.table.recoverDelay ≤ (s.getQuantity .A none).recover + 1
      ∧ s.busAlarm (some 0) = false)
    ∧ ((s.stage 0).cfg.enabled = true ∧ 1 ≤ (s.stage 0).cfg.thdLimit ∧ (s.stage 0).reported = some .closed
      ∧ (s.stage 0).overCount + 1 = (s.stage 0).cfg.thdDelay ∧ (s.stage 0).bar = true)
    ∧ (running.stage 0).cfg.enabled = false ∧ 37 ≤ 40 * 15 / 16 ∧ ¬ 38 ≤ 40 * 15 / 16 := by decide +kernel

/-- The part in and outside CONFIG; an APPEND MAP of no entry, of one, of 16 and of 17; entries stored, with the flag kept,
cleared and not asked for, and a first one that fails. -/
theorem witness_TablesAndSettingsAreWritten :
    let w : MapEntryWrite := ⟨40, 0, 1, 4096, true⟩
    let stored (x : MapEntryWrite) := appendEntries 0 running.map (running.sources.map (·.addr)) false [x]
    running.executes ∧ running.mode = .config ∧ service.executes ∧ service.mode ≠ .config
      ∧ (∀ n ∈ [1, 16], 1 ≤ (List.replicate n w).length ∧ (List.replicate n w).length ≤ 16)
      ∧ 16 < (List.replicate 17 w).length
      ∧ stored w = .stored [⟨40, 0, some (.busV .A), 4096, true⟩] [40] false
      ∧ stored { w with role := 255 } = .stored [⟨40, 0, none, 4096, false⟩] [40] true
      ∧ stored { w with capture := false } = .stored [⟨40, 0, some (.busV .A), 4096, false⟩] [40] false
      ∧ ([w, w] : List MapEntryWrite)[1]? = some w
      ∧ (∃ e, readEntry w = some e ∧ entryCheck [e] [40] e = some .duplicate) ∧ readEntry { w with slot := 16 } = none :=
  ⟨executes_running, rfl, executes_service, by decide, by decide, by decide, by decide, by decide, by decide, rfl,
    ⟨_, rfl, by decide⟩, by decide⟩

/-! #### Chapters 9 to 11 -/

/-- A held record of one window and one channel, a recording, and an armed capture. -/
theorem witness_CaptureRequestsByState :
    let h : RecordHeader := ⟨.request, none, none, 0, 0, [⟨.busV .A, 40, 0⟩], 0⟩
    let s : State := { mappedOne with
      cap := { resetCapture with status := .held, store := [⟨3, [unfilledPiece]⟩], header := some h } }
    s.executes ∧ s.cap.status = .held ∧ s.cap.header = some h ∧ s.cap.store.length ≤ (1 : Byte).toNat
      ∧ h.channels.length ≤ (1 : Byte).toNat ∧ s.cap.store[(0 : Byte).toNat]? = some ⟨3, [unfilledPiece]⟩
      ∧ (0 : Byte).toNat < h.channels.length ∧ [unfilledPiece][(0 : Byte).toNat]? = some unfilledPiece
      ∧ running.cap.status ≠ .held ∧ running.cap.status ≠ .recording
      ∧ ({ s with cap := { s.cap with status := .recording } } : State).cap.status = .recording :=
  ⟨⟨rfl, by decide⟩, rfl, rfl, by decide, by decide, rfl, by decide, rfl, by decide, by decide, rfl⟩

/-- CONFIG with and without BUS_VA and with an unsettled stage; SERVICE busy and idle; FALLBACK. -/
theorem witness_PartModeRequests :
    let unsettled := setOf mappedOne { enabledStage with reported := none }
    let fallback : State := { running with mode := .fallback }
    running.executes ∧ running.mode = .config ∧ entriesOf running.map (.busV .A) = []
      ∧ entriesOf mappedOne.map (.busV .A) ≠ []
      ∧ ((unsettled.stage 0).cfg.enabled = true ∧ (unsettled.stage 0).reported = none ∧ ∀ j, j < (0 : StageIx) → False)
      ∧ (∀ k, (mappedOne.stage k).cfg.enabled = true → False) ∧ mappedOne.queue = []
      ∧ service.mode = .service ∧ (openingOne.stage 0).inFlight ≠ none ∧ service.queue = []
      ∧ (∀ k, (service.stage k).inFlight = none) ∧ (∀ k, (service.stage k).cfg.enabled = true → False)
      ∧ fallback.executes ∧ fallback.mode = .fallback := by
  have hm : ∀ k, mappedOne.stage k = resetStage := running_stage
  have hs : ∀ k, service.stage k = resetStage := running_stage
  refine ⟨executes_running, rfl, rfl, by decide, ⟨by decide +kernel, by decide +kernel, fun j h => ?_⟩, fun k h => ?_, rfl,
    rfl, by decide +kernel, rfl, fun k => by rw [hs]; rfl, fun k h => ?_, ⟨rfl, by decide⟩, rfl⟩
  · exact absurd h (Nat.not_lt_zero _)
  · rw [hm] at h; exact absurd h (by decide)
  · rw [hs] at h; exact absurd h (by decide)

/-- Both clock sources, a recovery of 16 and of 17 ticks, and a watchdog exactly at its timeout. -/
theorem witness_TimeBaseClockAndWatchdog :
    let s (n : Nat) : State := { service with
      clock := .internal, recovery := n, watchdog := .running 0, now := 1000, link := { resetLink with watchdog := 1 } }
    (s 17).held = false ∧ (s 17).clock = .internal ∧ 17 ≤ (s 17).recovery ∧ (s 17).watchdog = .running 0
      ∧ (s 17).link.watchdog * 1000 ≤ ((s 17).now - 0).toNat ∧ (s 17).mode = .service ∧ running.mode ≠ .service
      ∧ running.clock = .reference ∧ running.watchdog = .off ∧ (s 16).clock = .internal ∧ (s 16).recovery < 17 := by
  decide +kernel

theorem witness_ResetsClearAndStartUpReleases :
    running.held = false ∧ State.reset.held = true ∧ State.reset.resetCause ≠ .restart
      ∧ running.enterRestart.held = true ∧ running.enterRestart.resetCause = .restart := by decide +kernel

/-- A part that may restart, with room for the reply and without, and one that is sending its RESTART reply. -/
theorem witness_RestartKeepsSettings :
    let full := running.modPort .S fun q => { q with ins := List.replicate 16 ⟨.notice, passing⟩ }
    let sending : State := { running.modPort .S fun q => { q with tx := .insert ⟨.reply true, passing⟩ 2 } with
      restartPending := true }
    running.executes ∧ running.queue = [] ∧ (∀ k, (running.stage k).inFlight = none) ∧ running.restartPending = false
      ∧ running.portS.up = true ∧ running.portS.ins.length < 16
      ∧ full.executes ∧ 16 ≤ full.portS.ins.length ∧ (∃ k, (openingOne.stage k).inFlight ≠ none)
      ∧ sending.held = false ∧ sending.restartPending = true ∧ sending.portS.tx = .insert ⟨.reply true, passing⟩ 2
      ∧ sending.portS.up = true :=
  ⟨executes_running, rfl, fun k => by rw [running_stage]; rfl, rfl, rfl, by decide, ⟨rfl, by decide⟩, by decide,
    ⟨0, by decide +kernel⟩, rfl, rfl, rfl, rfl⟩

theorem witness_YardAlarmFollowsClasses : State.reset.held = true ∧ running.held = false := by decide

/-- The last index of each range, and the first beyond it. -/
theorem witness_StatusAndCountersAnswer :
    running.executes ∧ running.sources.length ≤ 8 ∧ 23 < (24 : Byte).toNat ∧ (23 : Byte).toNat = (23 : StageIx).val
      ∧ 63 < (64 : Byte).toNat ∧ (63 : Byte).toNat ≤ 63 :=
  ⟨executes_running, by decide, by decide, by decide, by decide, by decide⟩

/-- A request row that is well formed; a payload without a header; a code outside Table 11-3; for each form of the parameter
part a part of another length. -/
theorem witness_RequestFramesAreDecoded :
    let code (i : Instr) := (requestParts i).map fun x => (x.2.1, x.2.2.length)
    let w : StageWrite := ⟨true, 40, 1, 20, 10, 50, 3, 100, 3, none, [5], 100, 3, 0⟩
    running.executes ∧ WellFormed (.writeStage rq 3 w) = true ∧ code (.writeStage rq 3 w) = some (0x11, 29)
      ∧ ([0x03, 2] : List Byte).length < 3
      ∧ (0x05 : Byte) ∉ [(0x01 : Byte), 0x02, 0x03, 0x04, 0x10, 0x11, 0x12, 0x13, 0x14, 0x15, 0x16, 0x17, 0x20, 0x21, 0x22,
        0x30, 0x31, 0x32, 0x40, 0x41, 0x42, 0x43, 0x44, 0x50, 0x51, 0x52, 0x53]
      ∧ (let p : List Byte := [2]
         p.length ≠ 0 ∧ p.length ≠ 2 ∧ p ≠ [] ∧ (byteAt p 0).toNat = 2 ∧ p.length ≠ 28 + (byteAt p 20).toNat
          ∧ p.length ≠ 1 + 6 * (byteAt p 0).toNat ∧ p.length ≠ 7 + 3 * (byteAt p 0).toNat ∧ p.length ≠ 31 ∧ p.length ≠ 8)
      ∧ (let p : List Byte := [2, 0, 0]
         p.length ≠ 1 ∧ p.length ≠ 2 ∧ p.length ≠ 4 ∧ p.length ≠ 2 + (byteAt p 1).toNat)
      ∧ 4 < (byteAt [5] 0).toNat ∧ 2 < (byteAt [3] 0).toNat
      ∧ (let p : List Byte := [1, 0]
         (byteAt p 0).toNat ≤ 1 ∧ p.length ≠ 1 ∧ p.length ≠ 21) :=
  ⟨executes_running, by decide, by decide, by decide, by decide, by decide, by decide, by decide, by decide, by decide⟩

end Sys2Proof.Tests
end

section
/-! Window indices (R35): their order is read off the distance from one to the other, counted round the 2048 indices. -/

namespace Sys2Proof.Machine

theorem windowIx_sub_toNat (a b : WindowIx) : (a - b).toNat = (a.toNat + 2048 - b.toNat) % 2048 := by
  have hb : b.toNat < 2048 := b.isLt
  calc (a - b).toNat
      = (2048 - b.toNat + a.toNat) % 2048 := BitVec.toNat_sub a b
    _ = (a.toNat + 2048 - b.toNat) % 2048 := by congr 1; omega

theorem ahead_iff_sub_toNat (a b : WindowIx) : ahead a b = true ↔ 1 ≤ (a - b).toNat ∧ (a - b).toNat ≤ 1023 := by
  simp only [ahead, Bool.and_eq_true, decide_eq_true_iff]

/-- Settles O23: the model's order reads the distance as a subtraction of 11-bit words, which is the subtraction modulo 2048
of the two indices as numbers. -/
theorem aheadIsADifferenceOf1To1023 : Obligations.AheadIsADifferenceOf1To1023 := by
  intro a b
  rw [ahead_iff_sub_toNat, windowIx_sub_toNat]

end Sys2Proof.Machine
end

section
/-! The integer square root (section 5.4) and the RMS value (R45). The binary search keeps the root of `n` in the interval
from `r` to `r + 2 ^ b`; each bit halves the interval, and with no bit left it holds one number. -/

namespace Sys2Proof.Machine

theorem isqrtBits_brackets (b n r : Nat) (low : r * r ≤ n) (high : n < (r + 2 ^ b) * (r + 2 ^ b)) :
    isqrtBits b n r * isqrtBits b n r ≤ n ∧ n < (isqrtBits b n r + 1) * (isqrtBits b n r + 1) := by
  induction b generalizing r with
  | zero => exact ⟨low, high⟩
  | succ b ih =>
    by_cases fits : (r + 2 ^ b) * (r + 2 ^ b) ≤ n
    · rw [isqrtBits, if_pos fits]
      have upper_half : r + 2 ^ b + 2 ^ b = r + 2 ^ (b + 1) := by rw [pow_succ]; omega
      exact ih (r + 2 ^ b) fits (by rwa [upper_half])
    · rw [isqrtBits, if_neg fits]
      exact ih r low (not_le.mp fits)

theorem isqrt_brackets {n : Nat} (hn : n < 2 ^ 64) : isqrt n * isqrt n ≤ n ∧ n < (isqrt n + 1) * (isqrt n + 1) :=
  isqrtBits_brackets 32 n 0 n.zero_le (by omega)

theorem isqrt_le_of_le_mul_self {n m : Nat} (hn : n < 2 ^ 64) (h : n ≤ m * m) : isqrt n ≤ m :=
  Nat.mul_self_le_mul_self_iff.mp ((isqrt_brackets hn).1.trans h)

theorem sumSquares_eq_sum_toNat (xs : List Int) : sumSquares xs = (xs.map fun x => (x * x).toNat).sum := by
  have square (x : Int) : x.natAbs * x.natAbs = (x * x).toNat := by rw [← Int.natAbs_mul_self, Int.toNat_natCast]
  simp only [sumSquares, square]

theorem sumSquares_le {xs : List Int} {m : Nat} (h : ∀ x ∈ xs, x.natAbs ≤ m) : sumSquares xs ≤ xs.length * (m * m) := by
  have each : ∀ y ∈ xs.map fun x => x.natAbs * x.natAbs, y ≤ m * m :=
    List.forall_mem_map.mpr fun x hx => Nat.mul_self_le_mul_self (h x hx)
  simpa [sumSquares] using List.sum_le_card_nsmul _ _ each

/-- The bound of step 1 of R45: no sample of 16 bits has a square above 2^30. -/
theorem sumSquares_le_of_samples {xs : List Int} (len : xs.length = 32) (range : ∀ x ∈ xs, -32768 ≤ x ∧ x ≤ 32767) :
    sumSquares xs ≤ 2 ^ 35 := by
  have magnitudes : ∀ x ∈ xs, x.natAbs ≤ 32768 := fun x hx => by have := range x hx; omega
  simpa [len] using sumSquares_le magnitudes

theorem slotValues_rms (orders : List Nat) (r : Role) (xs : List Int) : (slotValues orders r xs).rms = rmsPm xs := rfl

/-- Settles O27: the bracket the binary search keeps gives the root, and the 16-bit range of the samples bounds the sum of
squares by 2^35, so the root by 2^15 and the RMS value by 4000 pm. -/
theorem rmsInFourSteps : Obligations.RmsInFourSteps := by
  refine ⟨fun n hn => isqrt_brackets hn, fun xs len range => ?_⟩
  have total_le : sumSquares xs ≤ 2 ^ 35 := sumSquares_le_of_samples len range
  have mean_lt : sumSquares xs / 32 < 2 ^ 64 := by omega
  have root_le : rmsCounts xs ≤ 32768 := isqrt_le_of_le_mul_self mean_lt (by omega)
  have step4 : rmsPm xs = (rmsCounts xs * 1000 + 4096) / 8192 := rfl
  obtain ⟨root_low, root_high⟩ := isqrt_brackets mean_lt
  exact ⟨sumSquares xs, rmsCounts xs, sumSquares_eq_sum_toNat xs, total_le, root_low, root_high, root_le, step4,
    by omega, by omega, by omega, fun orders r => slotValues_rms orders r xs⟩

end Sys2Proof.Machine
end

section
/-! The standing facts of Safety.lean, taken apart so that each operation is held to them once: per stage record, per queue, and
as one relation between the states before and after an operation. -/

namespace Sys2Proof.Machine

/-! ### Operations and positions by name

The constructor `open` is a keyword, so a case split names its case `opens`. -/

theorem Operation.named {motive : Operation → Prop} (opens : motive .open) (close : motive .close) (op : Operation) :
    motive op :=
  match op with
  | .open => opens
  | .close => close

theorem Position.named {motive : Position → Prop} (opens : motive .open) (closed : motive .closed) (moving : motive .moving)
    (unknown : motive .unknown) (pos : Position) : motive pos :=
  match pos with
  | .open => opens
  | .closed => closed
  | .moving => moving
  | .unknown => unknown

/-! ### One stage record -/

/-- What `SwitchingSafe` asks of one stage record. -/
structure Stage.Flies (a : Stage) : Prop where
  closing : a.state = .closing ↔ ∃ f, a.inFlight = some f ∧ f.op = .close
  opening : a.state = .opening ↔ ∃ f, a.inFlight = some f ∧ f.op = .open
  still : a.inFlight ≠ none → a.moving = none

/-- What `TripSafe` asks of one stage record. -/
structure Stage.Trips (a : Stage) : Prop where
  absent : a.state = .absent ↔ a.cfg.enabled = false
  placed : a.cfg.enabled = true → a.reported = some .closed →
    a.state = .closed ∨ a.state = .failed ∨ a.state = .closing ∨ a.state = .opening
  awaits : a.awaiting = true → a.state = .openCooling
  pending : a.lockoutPending = true → a.state = .closed ∨ a.state = .failed ∨ a.state = .closing ∨ a.state = .opening

/-- A record in a state other than CLOSING and OPENING has nothing in flight. -/
theorem Stage.Flies.grounded {a : Stage} (h : a.Flies) (hc : a.state ≠ .closing) (ho : a.state ≠ .opening) :
    a.inFlight = none := by
  cases hf : a.inFlight with
  | none => rfl
  | some f =>
    cases hop : f.op using Operation.named with
    | close => exact absurd (h.closing.2 ⟨f, hf, hop⟩) hc
    | opens => exact absurd (h.opening.2 ⟨f, hf, hop⟩) ho

/-- A record with nothing in flight is in neither of the two states. -/
theorem Stage.Flies.settled {a : Stage} (h : a.Flies) (hf : a.inFlight = none) :
    a.state ≠ .closing ∧ a.state ≠ .opening := by
  refine ⟨fun e => ?_, fun e => ?_⟩
  · obtain ⟨f, e', -⟩ := h.closing.1 e; rw [hf] at e'; cases e'
  · obtain ⟨f, e', -⟩ := h.opening.1 e; rw [hf] at e'; cases e'

/-- A record with an operation in flight is in the state of that operation. -/
theorem Stage.Flies.flying {a : Stage} (h : a.Flies) {f : InFlight} (hf : a.inFlight = some f) :
    a.state = if f.op = .close then .closing else .opening := by
  cases hop : f.op using Operation.named with
  | close => simpa using h.closing.2 ⟨f, hf, hop⟩
  | opens => simpa using h.opening.2 ⟨f, hf, hop⟩

/-- A grounded record that is in neither of the two states agrees with R95. -/
theorem Stage.Flies.of_grounded {a : Stage} (hf : a.inFlight = none) (hc : a.state ≠ .closing) (ho : a.state ≠ .opening) :
    a.Flies := by
  refine ⟨⟨fun e => absurd e hc, ?_⟩, ⟨fun e => absurd e ho, ?_⟩, fun e => absurd hf e⟩ <;>
    (rintro ⟨f, e, -⟩; rw [hf] at e; cases e)

/-- What one operation may make of a stage record, the law of R137 and the lockout apart. -/
structure Stage.Passes (a b : Stage) : Prop where
  flies : a.Flies → b.Flies
  trips : a.Flies → a.Trips → b.Trips
  flights : b.inFlight = none ∨ b.inFlight.map (·.op) = a.inFlight.map (·.op)

/-- It also leaves a record that is under a lockout under it. -/
structure Stage.Turns (a b : Stage) : Prop extends Stage.Passes a b where
  locks : a.Flies → a.Trips → lockoutKeeps a = true → lockoutKeeps b = true

/-- The law of R137 holds of the new record where it held of the old one, whatever the queue holds. -/
def Stage.Holds (a b : Stage) : Prop :=
  a.Flies → a.Trips → b.lockoutPending = true → b.state = .failed ∨
    (a.lockoutPending = true ∧ a.state ≠ .failed ∧
      ∀ f, a.inFlight = some f → f.op = .open → ∃ g, b.inFlight = some g ∧ g.op = .open)

/-- What one operation may make of a stage record, whatever the rest of the machine does. -/
structure Stage.Becomes (a b : Stage) : Prop extends Stage.Turns a b where
  stands : a.Holds b

/-- A change of a record that leaves its switching state and its lockout as they are; a moving timer may stop. -/
structure Stage.Calm (a b : Stage) : Prop where
  state : b.state = a.state
  enabled : b.cfg.enabled = a.cfg.enabled
  reported : b.reported = a.reported
  awaiting : b.awaiting = a.awaiting
  pending : b.lockoutPending = a.lockoutPending
  flight : b.inFlight.map (·.op) = a.inFlight.map (·.op)
  moving : b.moving = a.moving ∨ b.moving = none

theorem Stage.Calm.refl (a : Stage) : a.Calm a := ⟨rfl, rfl, rfl, rfl, rfl, rfl, .inl rfl⟩

/-- The records agree on which operation is in flight. -/
theorem flight_op_iff {x y : Option InFlight} (h : y.map (·.op) = x.map (·.op)) (op : Operation) :
    (∃ f, y = some f ∧ f.op = op) ↔ ∃ f, x = some f ∧ f.op = op := by
  have inner (z : Option InFlight) : (∃ f, z = some f ∧ f.op = op) ↔ z.map (·.op) = some op := by
    rw [Option.map_eq_some_iff]
  rw [inner, inner, h]

theorem Stage.Calm.flies {a b : Stage} (h : a.Calm b) (g : a.Flies) : b.Flies where
  closing := by rw [h.state, flight_op_iff h.flight]; exact g.closing
  opening := by rw [h.state, flight_op_iff h.flight]; exact g.opening
  still e := by
    rcases h.moving with m | m
    · rw [m]
      exact g.still fun e' => e (by simpa [e'] using h.flight)
    · exact m

theorem Stage.Calm.trips {a b : Stage} (h : a.Calm b) (g : a.Trips) : b.Trips where
  absent := by rw [h.state, h.enabled]; exact g.absent
  placed := by rw [h.state, h.enabled, h.reported]; exact g.placed
  awaits := by rw [h.state, h.awaiting]; exact g.awaits
  pending := by rw [h.state, h.pending]; exact g.pending

theorem Stage.Calm.becomes {a b : Stage} (h : a.Calm b) : a.Becomes b where
  flies := h.flies
  trips _ := h.trips
  flights := .inr h.flight
  stands _ _ e := by
    rw [h.pending] at e
    by_cases hs : a.state = .failed
    · exact .inl (h.state.trans hs)
    · exact .inr ⟨e, hs, fun f hf ho => (flight_op_iff h.flight .open).2 ⟨f, hf, ho⟩⟩
  locks _ _ e := by simpa [lockoutKeeps, h.state, h.pending] using e

/-! ### The whole machine -/

/-- `TripSafe` but for its law: the facts the law rests on. -/
structure TripBase (s : State) : Prop where
  stage : ∀ k, (s.stage k).Trips
  known : ∀ e ∈ s.queue, (s.stage e.stage).state ≠ .absent
  protects : ∀ e ∈ s.queue, e.cls = .protect → e.op = .open ∧ e.origin ≠ .manual

/-- The stage is FAILED, or has an OPEN in flight or a PROTECT OPEN queued (R137). -/
def Covered (s : State) (k : StageIx) : Prop :=
  (s.stage k).state = .failed ∨ (∃ f, (s.stage k).inFlight = some f ∧ f.op = .open)
    ∨ ∃ e ∈ s.queue, e.stage = k ∧ e.op = .open ∧ e.cls = .protect

/-- The law of R137 for one stage. -/
def Stands (s : State) (k : StageIx) : Prop := (s.stage k).lockoutPending = true → Covered s k

theorem tripSafe_iff (s : State) : TripSafe s ↔ TripBase s ∧ ∀ k, Stands s k :=
  ⟨fun h => ⟨⟨fun k => ⟨h.absent k, h.placed k, h.awaits k, h.pending k⟩, h.known, h.protects⟩, h.stands⟩,
    fun ⟨b, l⟩ => ⟨fun k => (b.stage k).absent, b.known, b.protects, fun k => (b.stage k).placed, fun k => (b.stage k).awaits,
      fun k => (b.stage k).pending, l⟩⟩

theorem SwitchingSafe.flies {s : State} (h : SwitchingSafe s) (k : StageIx) : (s.stage k).Flies :=
  ⟨h.closing k, h.opening k, h.still k⟩

/-- An operation keeps the standing facts that do not rest on the switching facts. -/
structure KeepsPlain (s t : State) : Prop where
  chain : ChainSafe s → ChainSafe t
  inService : InServiceSafe s → InServiceSafe t
  map : MapSafe s → MapSafe t
  capture : CaptureSafe s → CaptureSafe t
  counters : CountersSafe s → CountersSafe t

/-- One operation, whatever it is part of, keeps every standing fact. The law of R137 is kept stage by stage, so that an
operation may set one stage's lockout pending before its PROTECT OPEN is submitted. -/
structure KeepsSafe (s t : State) : Prop extends KeepsPlain s t where
  switching : SwitchingSafe s → SwitchingSafe t
  base : SwitchingSafe s → TripBase s → TripBase t
  stands : ∀ k, SwitchingSafe s → TripBase s → Stands s k → Stands t k

/-- It also keeps every stage that is under a lockout under it: all operations but RELEASE and the resets do. -/
structure Keeps (s t : State) : Prop extends KeepsSafe s t where
  locks : ∀ k, SwitchingSafe s → TripBase s → lockoutKeeps (s.stage k) = true → lockoutKeeps (t.stage k) = true

theorem KeepsSafe.trip {s t : State} (h : KeepsSafe s t) (hs : SwitchingSafe s) (ht : TripSafe s) : TripSafe t := by
  obtain ⟨b, l⟩ := (tripSafe_iff s).1 ht
  exact (tripSafe_iff t).2 ⟨h.base hs b, fun k => h.stands k hs b (l k)⟩

theorem KeepsPlain.trans {s t u : State} (h : KeepsPlain s t) (g : KeepsPlain t u) : KeepsPlain s u where
  chain := g.chain ∘ h.chain
  inService := g.inService ∘ h.inService
  map := g.map ∘ h.map
  capture := g.capture ∘ h.capture
  counters := g.counters ∘ h.counters

theorem KeepsSafe.trans {s t u : State} (h : KeepsSafe s t) (g : KeepsSafe t u) : KeepsSafe s u where
  toKeepsPlain := h.toKeepsPlain.trans g.toKeepsPlain
  switching := g.switching ∘ h.switching
  base hs hb := g.base (h.switching hs) (h.base hs hb)
  stands k hs hb hl := g.stands k (h.switching hs) (h.base hs hb) (h.stands k hs hb hl)

theorem Keeps.refl (s : State) : Keeps s s :=
  ⟨⟨⟨id, id, id, id, id⟩, id, fun _ h => h, fun _ _ _ h => h⟩, fun _ _ _ h => h⟩

/-- Where the switching facts fail, the others are all there is to keep. -/
theorem Keeps.of_unsafe {s t : State} (h : KeepsPlain s t) (hs : ¬ SwitchingSafe s) : Keeps s t where
  toKeepsPlain := h
  switching g := absurd g hs
  base g := absurd g hs
  stands _ g := absurd g hs
  locks _ g := absurd g hs

theorem Keeps.trans {s t u : State} (h : Keeps s t) (g : Keeps t u) : Keeps s u where
  toKeepsSafe := h.toKeepsSafe.trans g.toKeepsSafe
  locks k hs hb hl := g.locks k (h.switching hs) (h.base hs hb) (h.locks k hs hb hl)

theorem foldl_keeps {α : Type} {f : State → α → State} (h : ∀ s a, Keeps s (f s a)) (l : List α) (s : State) :
    Keeps s (l.foldl f s) := foldl_frame Keeps.refl Keeps.trans h l s

/-! ### Counters by owner -/

/-- The six counters of a port stand at or below the maximum. -/
structure PortCounters.Within (c : PortCounters) : Prop where
  good : c.good ≤ 4294967295
  checkFailures : c.checkFailures ≤ 4294967295
  transitFull : c.transitFull ≤ 4294967295
  wrongSide : c.wrongSide ≤ 4294967295
  poisoned : c.poisoned ≤ 4294967295
  linkDiscards : c.linkDiscards ≤ 4294967295

/-- The twenty counters, taken apart by their owners. -/
structure Counted (s : State) : Prop where
  portS : s.portS.ctr.Within
  portF : s.portF.ctr.Within
  preemptions : s.preemptions ≤ 4294967295
  repliesDropped : s.repliesDropped ≤ 4294967295
  noticesDropped : s.noticesDropped ≤ 4294967295
  malformedSamples : s.malformedSamples ≤ 4294967295
  lateSamples : s.lateSamples ≤ 4294967295
  mapOverflow : s.mapOverflow ≤ 4294967295
  malformedPositions : s.malformedPositions ≤ 4294967295
  missed : s.cap.missed ≤ 4294967295

theorem countersSafe_iff (s : State) : CountersSafe s ↔ Counted s := by
  simp only [CountersSafe, State.counters, List.forall_mem_cons, List.not_mem_nil, false_imp_iff, implies_true, and_true]
  constructor
  · rintro ⟨a, b, c, d, e, f, g, h, a', b', c', d', e', p, f', i, j, k, l, m⟩
    exact ⟨⟨a, b, c, d, e, f⟩, ⟨a', b', c', d', e', f'⟩, p, g, h, i, j, k, l, m⟩
  · rintro ⟨⟨a, b, c, d, e, f⟩, ⟨a', b', c', d', e', f'⟩, p, g, h, i, j, k, l, m⟩
    exact ⟨a, b, c, d, e, f, g, h, a', b', c', d', e', p, f', i, j, k, l, m⟩

/-! ### What each standing fact reads -/

theorem ChainSafe.congr {s t : State} (hS : t.portS = s.portS) (hF : t.portF = s.portF) (hh : t.held = s.held)
    (ha : t.addr = s.addr) (h : ChainSafe s) : ChainSafe t := by
  obtain ⟨a, b, c, d⟩ := h
  exact ⟨hS ▸ a, hF ▸ b, by rw [hh, hS, hF]; exact c, by rw [State.fullNode, ha, hS, hF]; exact d⟩

theorem State.stage_congr {s t : State} (h : t.stages = s.stages) (k : StageIx) : t.stage k = s.stage k := by
  rw [State.stage, State.stage, h]

theorem State.closeFlights_congr {s t : State} (h : t.stages = s.stages) : t.closeFlights = s.closeFlights := by
  simp only [State.closeFlights, State.inFlightOf, State.stage_congr h]

theorem SwitchingSafe.congr {s t : State} (hq : t.queue = s.queue) (hst : t.stages = s.stages)
    (hl : t.link.closeLimit = s.link.closeLimit) (hm : t.mode = s.mode) (hh : t.held = s.held) (ht : t.tag = s.tag)
    (h : SwitchingSafe s) : SwitchingSafe t := by
  have st := State.stage_congr hst
  exact ⟨hq ▸ h.single, hq ▸ h.closeNormal, fun k => st k ▸ h.closing k, fun k => st k ▸ h.opening k,
    fun k => st k ▸ h.still k, by rw [State.closeFlights_congr hst, hl]; exact h.paced,
    fun e => ⟨hq ▸ (h.config (hm ▸ e)).1, fun k => st k ▸ (h.config (hm ▸ e)).2 k⟩,
    fun e => hm ▸ h.held (hh ▸ e), ht ▸ h.tagged⟩

theorem InServiceSafe.congr {s t : State} (hi : t.inService = s.inService) (hst : t.stages = s.stages)
    (h : InServiceSafe s) : InServiceSafe t :=
  ⟨hi ▸ h.nodup, fun k => by rw [hi, State.stage_congr hst]; exact h.exact k⟩

theorem MapSafe.congr {s t : State} (hm : t.map = s.map) (hs : t.sources.map (·.addr) = s.sources.map (·.addr))
    (h : MapSafe s) : MapSafe t := by
  have hl : t.sources.length = s.sources.length := by simpa using congrArg List.length hs
  exact ⟨hm ▸ h.room, hm ▸ h.twice, hm ▸ h.pairs, hm ▸ h.captures, by rw [hs, hm]; exact h.sources, hl ▸ h.few⟩

theorem CaptureSafe.congr {s t : State} (hc : t.cap = s.cap) (h : CaptureSafe s) : CaptureSafe t :=
  ⟨hc ▸ h.count, hc ▸ h.record, hc ▸ h.ring, hc ▸ h.header⟩

theorem TripBase.congr {s t : State} (hq : t.queue = s.queue) (hst : t.stages = s.stages) (h : TripBase s) : TripBase t :=
  have st := State.stage_congr hst
  ⟨fun k => st k ▸ h.stage k, by simp only [hq, st]; exact h.known, hq ▸ h.protects⟩

theorem Stands.congr {s t : State} (hq : t.queue = s.queue) (hst : t.stages = s.stages) {k : StageIx} (h : Stands s k) :
    Stands t k := by
  simpa only [Stands, Covered, hq, State.stage_congr hst] using h

/-! ### Operations by the part of the state they touch -/

/-- `t` is `s` but for fields that no standing fact reads. -/
def onlyQuiet (s t : State) : Prop :=
  t = { s with
    resetCause := t.resetCause, now := t.now, clock := t.clock, recovery := t.recovery, watchdog := t.watchdog
    restartPending := t.restartPending, roles := t.roles, yardIx := t.yardIx, tracker := t.tracker, evals := t.evals
    tickPhase := t.tickPhase, lastClose := t.lastClose, setA := t.setA, setB := t.setB, phases := t.phases, vc := t.vc
    table := t.table, alarms := t.alarms, fresh := t.fresh, pending := t.pending }

theorem Keeps.of_quiet {s t : State} (h : onlyQuiet s t) : Keeps s t where
  chain := ChainSafe.congr (by rw [h]) (by rw [h]) (by rw [h]) (by rw [h])
  switching := SwitchingSafe.congr (by rw [h]) (by rw [h]) (by rw [h]) (by rw [h]) (by rw [h]) (by rw [h])
  inService := InServiceSafe.congr (by rw [h]) (by rw [h])
  map := MapSafe.congr (by rw [h]) (by rw [h])
  capture := CaptureSafe.congr (by rw [h])
  counters g := by rw [h]; exact g
  base _ := TripBase.congr (by rw [h]) (by rw [h])
  stands _ _ _ := Stands.congr (by rw [h]) (by rw [h])
  locks k _ _ g := by rw [h]; exact g

/-- `t` is `s` but for the two ports, the counters outside them, and the counter of free values. -/
def onlyPorts (s t : State) : Prop :=
  t = { s with
    portS := t.portS, portF := t.portF, preemptions := t.preemptions, repliesDropped := t.repliesDropped
    noticesDropped := t.noticesDropped, malformedSamples := t.malformedSamples, lateSamples := t.lateSamples
    malformedPositions := t.malformedPositions, fresh := t.fresh }

theorem Keeps.of_ports {s t : State} (h : onlyPorts s t) (chain : ChainSafe s → ChainSafe t)
    (counters : Counted s → Counted t) : Keeps s t where
  chain := chain
  counters g := (countersSafe_iff t).2 (counters ((countersSafe_iff s).1 g))
  switching := SwitchingSafe.congr (by rw [h]) (by rw [h]) (by rw [h]) (by rw [h]) (by rw [h]) (by rw [h])
  inService := InServiceSafe.congr (by rw [h]) (by rw [h])
  map := MapSafe.congr (by rw [h]) (by rw [h])
  capture := CaptureSafe.congr (by rw [h])
  base _ := TripBase.congr (by rw [h]) (by rw [h])
  stands _ _ _ := Stands.congr (by rw [h]) (by rw [h])
  locks k _ _ g := by rw [h]; exact g

/-- Capture keeps its bounds and its header. -/
theorem Keeps.of_capture {s t : State} (h : t = { s with cap := t.cap }) (capture : CaptureSafe s → CaptureSafe t)
    (missed : s.cap.missed ≤ 4294967295 → t.cap.missed ≤ 4294967295) : Keeps s t where
  chain := ChainSafe.congr (by rw [h]) (by rw [h]) (by rw [h]) (by rw [h])
  capture := capture
  counters g := by
    obtain ⟨a, b, c, d, e, f, i, j, l, m⟩ := (countersSafe_iff s).1 g
    rw [countersSafe_iff, h]
    exact ⟨a, b, c, d, e, f, i, j, l, missed m⟩
  switching := SwitchingSafe.congr (by rw [h]) (by rw [h]) (by rw [h]) (by rw [h]) (by rw [h]) (by rw [h])
  inService := InServiceSafe.congr (by rw [h]) (by rw [h])
  map := MapSafe.congr (by rw [h]) (by rw [h])
  base _ := TripBase.congr (by rw [h]) (by rw [h])
  stands _ _ _ := Stands.congr (by rw [h]) (by rw [h])
  locks k _ _ g := by rw [h]; exact g

/-- `t` is `s` but for the switching half of the state and fields that no standing fact reads. -/
def onlyStages (s t : State) : Prop :=
  t = { s with
    mode := t.mode, stages := t.stages, inService := t.inService, queue := t.queue, tag := t.tag, lastClose := t.lastClose
    vc := t.vc, evals := t.evals, alarms := t.alarms, tickPhase := t.tickPhase, table := t.table }

theorem KeepsPlain.of_stages {s t : State} (h : onlyStages s t) (inService : InServiceSafe s → InServiceSafe t) :
    KeepsPlain s t where
  chain := ChainSafe.congr (by rw [h]) (by rw [h]) (by rw [h]) (by rw [h])
  map := MapSafe.congr (by rw [h]) (by rw [h])
  capture := CaptureSafe.congr (by rw [h])
  counters g := by rw [h]; exact g
  inService := inService

theorem Keeps.of_stages {s t : State} (h : onlyStages s t) (switching : SwitchingSafe s → SwitchingSafe t)
    (inService : InServiceSafe s → InServiceSafe t) (base : SwitchingSafe s → TripBase s → TripBase t)
    (stands : ∀ k, SwitchingSafe s → TripBase s → Stands s k → Stands t k)
    (locks : ∀ k, SwitchingSafe s → TripBase s → lockoutKeeps (s.stage k) = true → lockoutKeeps (t.stage k) = true) :
    Keeps s t where
  toKeepsPlain := .of_stages h inService
  switching := switching
  base := base
  stands := stands
  locks := locks

/-! ### Changes of stage records -/

/-- The stage has an operation of this kind in flight. -/
def State.flying (s : State) (op : Operation) (k : StageIx) : Prop := ∃ f, (s.stage k).inFlight = some f ∧ f.op = op

theorem State.mem_closeFlights (s : State) (k : StageIx) :
    k ∈ (allStages.filter fun k => (s.inFlightOf k).any fun f => f.op == .close) ↔ s.flying .close k := by
  simp [mem_allStages, State.inFlightOf, Option.any_eq_true, State.flying]

theorem closeFlights_le {s t : State} (h : ∀ k, t.flying .close k → s.flying .close k) : t.closeFlights ≤ s.closeFlights :=
  ((allStages_nodup.filter _).subperm fun k hk =>
    (s.mem_closeFlights k).2 (h k ((t.mem_closeFlights k).1 hk))).length_le

/-- One CLOSE more in flight. -/
theorem closeFlights_le_succ {s t : State} (k : StageIx) (h : ∀ j, j ≠ k → t.flying .close j → s.flying .close j) :
    t.closeFlights ≤ s.closeFlights + 1 := by
  refine ((allStages_nodup.filter _).subperm (l₂ := k :: allStages.filter fun k => (s.inFlightOf k).any fun f => f.op == .close)
    fun j hj => ?_).length_le
  by_cases e : j = k
  · exact e ▸ List.mem_cons_self
  · exact List.mem_cons_of_mem _ ((s.mem_closeFlights j).2 (h j e ((t.mem_closeFlights j).1 hj)))

/-- Every record keeps what R95 asks of it, no operation takes flight, and the queue stands: the switching facts are kept. -/
theorem SwitchingSafe.of_flies {s t : State} (hq : t.queue = s.queue) (hl : t.link.closeLimit = s.link.closeLimit)
    (hm : t.mode = s.mode) (hh : t.held = s.held) (ht : t.tag = s.tag) (flies : ∀ k, (s.stage k).Flies → (t.stage k).Flies)
    (flights : ∀ k, (t.stage k).inFlight = none ∨ (t.stage k).inFlight.map (·.op) = (s.stage k).inFlight.map (·.op))
    (g : SwitchingSafe s) : SwitchingSafe t := by
  have flies k := flies k (g.flies k)
  refine ⟨hq ▸ g.single, hq ▸ g.closeNormal, fun k => (flies k).closing, fun k => (flies k).opening,
    fun k => (flies k).still, ?_, fun e => ⟨hq ▸ (g.config (hm ▸ e)).1, fun k => ?_⟩, fun e => hm ▸ g.held (hh ▸ e),
    ht ▸ g.tagged⟩
  · refine hl ▸ (closeFlights_le fun k ⟨f, hf, hop⟩ => ?_).trans g.paced
    rcases flights k with e | e
    · rw [e] at hf; cases hf
    · exact (flight_op_iff e.symm .close).2 ⟨f, hf, hop⟩
  · rcases flights k with e' | e'
    · exact e'
    · rw [(g.config (hm ▸ e)).2 k] at e'
      simpa using e'

theorem SwitchingSafe.of_passes {s t : State} (hq : t.queue = s.queue) (hl : t.link.closeLimit = s.link.closeLimit)
    (hm : t.mode = s.mode) (hh : t.held = s.held) (ht : t.tag = s.tag) (h : ∀ k, (s.stage k).Passes (t.stage k))
    (g : SwitchingSafe s) : SwitchingSafe t := g.of_flies hq hl hm hh ht (fun k => (h k).flies) fun k => (h k).flights

theorem TripBase.of_passes {s t : State} (hq : t.queue = s.queue) (h : ∀ k, (s.stage k).Passes (t.stage k))
    (known : ∀ e ∈ s.queue, (s.stage e.stage).state ≠ .absent → (t.stage e.stage).state ≠ .absent)
    (hs : SwitchingSafe s) (g : TripBase s) : TripBase t :=
  ⟨fun k => (h k).trips (hs.flies k) (g.stage k), hq ▸ fun e he => known e he (g.known e he), hq ▸ g.protects⟩

theorem Stands.of_holds {s t : State} (hq : t.queue = s.queue) {k : StageIx} (h : (s.stage k).Holds (t.stage k))
    (hf : (s.stage k).Flies) (ht : (s.stage k).Trips) (g : Stands s k) : Stands t k := by
  intro e
  rcases h hf ht e with hs | ⟨hp, hs, ho⟩
  · exact .inl hs
  · rcases g hp with hs' | ⟨f, hf, hop⟩ | ⟨x, hx, hx'⟩
    · exact absurd hs' hs
    · exact .inr (.inl (ho f hf hop))
    · exact .inr (.inr ⟨x, hq ▸ hx, hx'⟩)

/-- A change of stage records alone. -/
theorem Keeps.of_becomes {s t : State} (h : onlyStages s t) (hm : t.mode = s.mode) (hq : t.queue = s.queue)
    (ht : t.tag = s.tag) (hb : ∀ k, (s.stage k).Becomes (t.stage k))
    (known : ∀ e ∈ s.queue, (s.stage e.stage).state ≠ .absent → (t.stage e.stage).state ≠ .absent)
    (inService : InServiceSafe s → InServiceSafe t) : Keeps s t := by
  have hl : t.link.closeLimit = s.link.closeLimit := by rw [h]
  have hh : t.held = s.held := by rw [h]
  exact .of_stages h (.of_passes hq hl hm hh ht fun k => (hb k).toPasses) inService
    (.of_passes hq (fun k => (hb k).toPasses) known) (fun k hs g => Stands.of_holds hq (hb k).stands (hs.flies k) (g.stage k))
    fun k hs g => (hb k).locks (hs.flies k) (g.stage k)

/-- The in-service list stands while no reported position changes. -/
theorem InServiceSafe.of_reported {s t : State} (hi : t.inService = s.inService)
    (h : ∀ k, (t.stage k).reported = (s.stage k).reported) (g : InServiceSafe s) : InServiceSafe t :=
  ⟨hi ▸ g.nodup, fun k => by rw [hi, h k]; exact g.exact k⟩

/-- Every record changes calmly. -/
theorem Keeps.of_calm {s t : State} (h : onlyStages s t) (hm : t.mode = s.mode) (hq : t.queue = s.queue)
    (ht : t.tag = s.tag) (hi : t.inService = s.inService) (hc : ∀ k, (s.stage k).Calm (t.stage k)) : Keeps s t :=
  Keeps.of_becomes h hm hq ht (fun k => (hc k).becomes) (fun e _ g => (hc e.stage).state ▸ g)
    (InServiceSafe.of_reported hi fun k => (hc k).reported)

/-- What holds of the changed record and of every other one holds of each. -/
theorem State.forall_modStage {s : State} {k : StageIx} {f : Stage → Stage} {P : StageIx → Stage → Prop}
    (hk : P k (f (s.stage k))) (hne : ∀ j, j ≠ k → P j (s.stage j)) (j : StageIx) : P j ((s.modStage k f).stage j) := by
  by_cases e : j = k
  · subst e; rw [State.modStage_stage]; exact hk
  · rw [State.modStage_stage_ne _ _ e]; exact hne j e

/-- One record changes; its entries do not stand for an absent stage. -/
theorem modStage_keeps {s : State} {k : StageIx} {f : Stage → Stage} (hb : (s.stage k).Becomes (f (s.stage k)))
    (hr : (f (s.stage k)).reported = (s.stage k).reported)
    (known : (f (s.stage k)).state = .absent → ∀ e ∈ s.queue, e.stage = k → (s.stage k).state = .absent) :
    Keeps s (s.modStage k f) := by
  refine Keeps.of_becomes (t := s.modStage k f) rfl rfl rfl rfl
    (State.forall_modStage (P := fun j b => (s.stage j).Becomes b) hb fun j _ => (Stage.Calm.refl _).becomes)
    (fun e he => ?_)
    (InServiceSafe.of_reported rfl (State.forall_modStage (P := fun j b => b.reported = (s.stage j).reported) hr fun _ _ => rfl))
  refine State.forall_modStage (P := fun j b => j = e.stage → (s.stage j).state ≠ .absent → b.state ≠ .absent) ?_
    (fun _ _ _ => id) e.stage rfl
  exact fun hk hs ha => hs (known ha e he hk.symm)

theorem modStage_calm {s : State} {k : StageIx} {f : Stage → Stage} (h : (s.stage k).Calm (f (s.stage k))) :
    Keeps s (s.modStage k f) :=
  modStage_keeps h.becomes h.reported fun e _ _ _ => h.state ▸ e

/-! ### A lockout that is set before its OPEN is submitted -/

/-- An operation keeps every standing fact but the law of R137 for stage `k`. -/
structure KeepsBut (k : StageIx) (s t : State) : Prop extends KeepsPlain s t where
  switching : SwitchingSafe s → SwitchingSafe t
  base : SwitchingSafe s → TripBase s → TripBase t
  stands : ∀ j, j ≠ k → SwitchingSafe s → TripBase s → Stands s j → Stands t j
  locks : ∀ j, SwitchingSafe s → TripBase s → lockoutKeeps (s.stage j) = true → lockoutKeeps (t.stage j) = true

/-- What follows keeps every standing fact and leaves stage `k` with its OPEN standing. -/
theorem KeepsBut.covered {k : StageIx} {s t u : State} (h : KeepsBut k s t) (g : Keeps t u)
    (c : SwitchingSafe s → TripBase s → Covered u k) : Keeps s u where
  toKeepsPlain := h.toKeepsPlain.trans g.toKeepsPlain
  switching := g.switching ∘ h.switching
  base hs hb := g.base (h.switching hs) (h.base hs hb)
  stands j hs hb hl := by
    by_cases e : j = k
    · subst e; exact fun _ => c hs hb
    · exact g.stands j (h.switching hs) (h.base hs hb) (h.stands j e hs hb hl)
  locks j hs hb hl := g.locks j (h.switching hs) (h.base hs hb) (h.locks j hs hb hl)

theorem KeepsBut.of_turns {k : StageIx} {s t : State} (h : onlyStages s t) (hm : t.mode = s.mode) (hq : t.queue = s.queue)
    (ht : t.tag = s.tag) (hb : (s.stage k).Turns (t.stage k)) (hne : ∀ j, j ≠ k → t.stage j = s.stage j)
    (known : (t.stage k).state = .absent → (s.stage k).state = .absent)
    (inService : InServiceSafe s → InServiceSafe t) : KeepsBut k s t := by
  have hl : t.link.closeLimit = s.link.closeLimit := by rw [h]
  have hh : t.held = s.held := by rw [h]
  have all (j) : (s.stage j).Turns (t.stage j) := by
    by_cases e : j = k
    · subst e; exact hb
    · rw [hne j e]; exact (Stage.Calm.refl _).becomes.toTurns
  refine ⟨.of_stages h inService, .of_passes hq hl hm hh ht fun j => (all j).toPasses,
    .of_passes hq (fun j => (all j).toPasses) fun e _ => ?_, fun j hj _ _ g => ?_,
    fun j hs g => (all j).locks (hs.flies j) (g.stage j)⟩
  · by_cases hk : e.stage = k
    · subst hk; exact fun hs ha => hs (known ha)
    · rw [hne _ hk]; exact id
  · simpa only [Stands, Covered, hne j hj, hq] using g

end Sys2Proof.Machine
end

section
/-! Notices, the insert queues, the command queue, selection and gathering keep the standing facts. -/

namespace Sys2Proof.Machine

/-! ### The insert queues -/

theorem State.upRoom_iff (s : State) : s.upRoom = true ↔ s.portS.up = true ∧ s.portS.ins.length < 16 := by
  simp [State.upRoom]

theorem enterUp_chain {s : State} (kind : InsertKind) (code dst : Byte) (payload : List Byte) (h : ChainSafe s) :
    ChainSafe (s.enterUp kind code dst payload) := by
  unfold State.enterUp
  split
  · exact h
  · next hn =>
    split
    · next room =>
      obtain ⟨up, short⟩ := s.upRoom_iff.1 room
      refine ⟨⟨h.portS.slots, ?_, fun e => ?_⟩, h.portF, h.held, fun e => ?_⟩
      · simp only [List.length_append, List.length_singleton]; omega
      · rw [up] at e; cases e
      · exact absurd e (by simpa [State.fullNode] using hn)
    · unfold State.countUpDrop
      split <;> exact ⟨h.portS, h.portF, h.held, h.forwarding⟩

theorem enterUp_counted {s : State} (kind : InsertKind) (code dst : Byte) (payload : List Byte) (h : Counted s) :
    Counted (s.enterUp kind code dst payload) := by
  unfold State.enterUp State.countUpDrop
  split
  · exact h
  · split
    · exact { h with }
    · split
      · exact { h with noticesDropped := bump_le h.noticesDropped }
      · exact { h with repliesDropped := bump_le h.repliesDropped }
      · exact h

theorem enterUp_keeps (s : State) (kind : InsertKind) (code dst : Byte) (payload : List Byte) :
    Keeps s (s.enterUp kind code dst payload) := by
  refine Keeps.of_ports ?_ (enterUp_chain kind code dst payload) (enterUp_counted kind code dst payload)
  unfold State.enterUp State.countUpDrop
  split
  · rfl
  · split
    · rfl
    · split <;> rfl

theorem notice_keeps (s : State) (n : Notice) : Keeps s (s.notice n) := enterUp_keeps s _ _ _ _

theorem reply_keeps (s : State) (rq : Requester) (kind : Byte) (restart : Bool) (a : Answer) :
    Keeps s (s.reply rq kind restart a) := enterUp_keeps s _ _ _ _

theorem placeCommand_length (q : List InsertFrame) (f : InsertFrame) : (placeCommand q f).length = q.length + 1 := by
  unfold placeCommand
  split
  · have h := congrArg List.length (List.takeWhile_append_dropWhile (p := InsertFrame.isProtect) (l := q))
    simp only [List.length_append, List.length_singleton] at h ⊢
    omega
  · simp

/-- Preemption ends the transmission on port F and counts it; queue and buffer stand. -/
theorem preempt_cases (s : State) : s.preempt = s ∨ ∃ c : SentCopy,
    s.preempt = { s with portF := s.portF.endCopy c, preemptions := bump s.preemptions } := by
  unfold State.preempt
  split
  · split
    · exact .inr ⟨_, rfl⟩
    · exact .inl rfl
  · exact .inl rfl

theorem preempt_keeps (s : State) : Keeps s s.preempt := by
  rcases preempt_cases s with h | ⟨c, h⟩
  · rw [h]; exact .refl s
  · rw [h]
    refine .of_ports rfl (fun g => ?_) fun g => { g with preemptions := bump_le g.preemptions }
    exact ⟨g.portS, ⟨g.portF.slots, g.portF.queue, fun e => ⟨(g.portF.down e).1, (g.portF.down e).2.1, (g.portF.down e).2.2.1, rfl⟩⟩,
      g.held, g.forwarding⟩

/-- A COMMAND frame enters while the down insert queue has room. -/
theorem enterDown_keeps {s : State} (room : s.portF.ins.length < 8) (cls : CmdClass) (dst : Byte) (payload : List Byte) :
    Keeps s (s.enterDown cls dst payload) := by
  unfold State.enterDown
  split
  · exact .refl s
  · next hn =>
    split
    · next up =>
      refine Keeps.trans ?_ (preempt_keeps _)
      refine .of_ports rfl (fun h => ?_) fun h => { h with portF := { h.portF with } }
      refine ⟨h.portS, ⟨h.portF.slots, ?_, fun e => ?_⟩, h.held, fun e => ?_⟩
      · simp only [placeCommand_length]; omega
      · rw [up] at e; cases e
      · exact absurd e (by simpa [State.fullNode] using hn)
    · refine .of_ports rfl (fun h => ⟨h.portS, ⟨h.portF.slots, h.portF.queue, h.portF.down⟩, h.held, h.forwarding⟩) fun h => ?_
      exact { h with portF := { h.portF with linkDiscards := bump_le h.portF.linkDiscards } }

/-! ### Changes of stage records with their notice -/

theorem changeStage_noticed (s : State) (k : StageIx) (f : Stage → Stage) : Keeps (s.modStage k f) (s.changeStage k f) := by
  unfold State.changeStage
  dsimp only
  split
  · exact .refl _
  · exact notice_keeps _ _

theorem changeStage_keeps {s : State} {k : StageIx} {f : Stage → Stage} (hb : (s.stage k).Becomes (f (s.stage k)))
    (hr : (f (s.stage k)).reported = (s.stage k).reported)
    (known : (f (s.stage k)).state = .absent → ∀ e ∈ s.queue, e.stage = k → (s.stage k).state = .absent) :
    Keeps s (s.changeStage k f) := (modStage_keeps hb hr known).trans (changeStage_noticed s k f)

/-! ### Entries -/

/-- An entry of the queue is what `entryOf` finds for its stage. -/
theorem State.entryOf_some {s : State} {k : StageIx} {e : QueueEntry} (h : s.entryOf k = some e) :
    e ∈ s.queue ∧ e.stage = k :=
  ⟨List.mem_of_find?_eq_some h, by simpa using List.find?_some h⟩

theorem State.entryOf_none {s : State} {k : StageIx} : s.entryOf k = none ↔ ∀ e ∈ s.queue, e.stage ≠ k := by
  simp [State.entryOf]

/-- With one entry per stage, the entry of a stage is the one found. -/
theorem SwitchingSafe.unique {s : State} (h : SwitchingSafe s) {e x : QueueEntry} (he : e ∈ s.queue) (hx : x ∈ s.queue)
    (hk : x.stage = e.stage) : x = e := by
  have : Std.Symm fun a b : QueueEntry => a.stage ≠ b.stage := ⟨fun _ _ => Ne.symm⟩
  by_contra hne
  exact h.single.forall hx he hne hk

/-- Entries leave the queue; those of a stage under a lockout stay, unless it is FAILED or has an OPEN in flight. -/
theorem Keeps.of_dropped {s : State} {q : List QueueEntry} (sub : q.Sublist s.queue)
    (left : SwitchingSafe s → TripBase s → ∀ e ∈ s.queue, e ∉ q → e.cls = .protect →
      (s.stage e.stage).lockoutPending = true → (s.stage e.stage).state = .failed) :
    Keeps s { s with queue := q } := by
  refine .of_stages rfl (fun h => ?_) (fun h => ⟨h.nodup, h.exact⟩) (fun _ h => ?_) (fun k hs hb h e => ?_) fun _ _ _ => id
  · exact ⟨h.single.sublist sub, fun e he => h.closeNormal e (sub.subset he), h.closing, h.opening, h.still, h.paced,
      fun m => ⟨by simpa [(h.config m).1] using sub, (h.config m).2⟩, h.held, h.tagged⟩
  · exact ⟨h.stage, fun e he => h.known e (sub.subset he), fun e he => h.protects e (sub.subset he)⟩
  · rcases h e with hf | ho | ⟨x, hx, rfl, hop, hc⟩
    · exact .inl hf
    · exact .inr (.inl ho)
    · by_cases hq : x ∈ q
      · exact .inr (.inr ⟨x, hq, rfl, hop, hc⟩)
      · exact .inl (left hs hb x hx hq hc e)

theorem dropEntry_keeps {s : State} {e : QueueEntry} {r : DropReason} (he : SwitchingSafe s → e ∈ s.queue)
    (left : SwitchingSafe s → TripBase s → e.cls = .protect → (s.stage e.stage).lockoutPending = true →
      (s.stage e.stage).state = .failed) : Keeps s (s.dropEntry e r) := by
  refine Keeps.trans (.of_dropped List.filter_sublist fun hs hb x hx hq hc hp => ?_) (notice_keeps _ _)
  have hk : x.stage = e.stage := by simpa [hx] using hq
  rw [hs.unique (he hs) hx hk] at hc hp ⊢
  exact left hs hb hc hp

theorem dropEntry_plain (s : State) (e : QueueEntry) (r : DropReason) : KeepsPlain s (s.dropEntry e r) :=
  KeepsPlain.trans (t := { s with queue := s.queue.filter fun x => x.stage ≠ e.stage })
    (.of_stages rfl (.of_reported rfl fun _ => rfl)) (notice_keeps _ _).toKeepsPlain

/-- An entry of class NORMAL leaves the queue. -/
theorem dropEntry_keeps_of_normal {s : State} {e : QueueEntry} {r : DropReason} (he : SwitchingSafe s → e ∈ s.queue)
    (hn : SwitchingSafe s → TripBase s → e.cls = .normal) : Keeps s (s.dropEntry e r) :=
  dropEntry_keeps he fun hs hb hc => by rw [hn hs hb] at hc; cases hc

/-- An entry joins the queue for a known stage without one. -/
theorem append_keeps {s : State} {e : QueueEntry} (hm : s.mode ≠ .config) (free : ∀ x ∈ s.queue, x.stage ≠ e.stage)
    (known : (s.stage e.stage).state ≠ .absent) (close : e.op = .close → e.cls = .normal)
    (protect : e.cls = .protect → e.op = .open ∧ e.origin ≠ .manual) : Keeps s { s with queue := s.queue ++ [e] } := by
  refine .of_stages rfl (fun h => ?_) (fun h => ⟨h.nodup, h.exact⟩) (fun _ h => ?_) (fun k _ _ h g => ?_) fun _ _ _ => id
  · refine ⟨List.pairwise_append.2 ⟨h.single, by simp, fun x hx y hy => ?_⟩, fun x hx => ?_, h.closing, h.opening, h.still,
      h.paced, fun m => absurd m hm, h.held, h.tagged⟩
    · rw [List.mem_singleton.1 hy]; exact free x hx
    · rcases List.mem_append.1 hx with hx | hx
      · exact h.closeNormal x hx
      · rw [List.mem_singleton.1 hx]; exact close
  · refine ⟨h.stage, fun x hx => ?_, fun x hx => ?_⟩ <;> rcases List.mem_append.1 hx with hx | hx
    · exact h.known x hx
    · rw [List.mem_singleton.1 hx]; exact known
    · exact h.protects x hx
    · rw [List.mem_singleton.1 hx]; exact protect
  · rcases h g with hf | ho | ⟨x, hx, hx'⟩
    · exact .inl hf
    · exact .inr (.inl ho)
    · exact .inr (.inr ⟨x, List.mem_append_left _ hx, hx'⟩)

@[simp] theorem mergeEntry_stage (e : QueueEntry) (c : CmdClass) (o : Origin) : (mergeEntry e c o).stage = e.stage := rfl
@[simp] theorem mergeEntry_op (e : QueueEntry) (c : CmdClass) (o : Origin) : (mergeEntry e c o).op = e.op := rfl

/-- A repeated command never lowers the class. -/
theorem mergeEntry_cls (e : QueueEntry) (c : CmdClass) (o : Origin) :
    (mergeEntry e c o).cls = .protect ↔ e.cls = .protect ∨ c = .protect := by
  unfold mergeEntry maxClass; dsimp only; split <;> simp_all

/-- A stage's entries take in a repeated command of the same operation. -/
theorem merge_keeps {s : State} {k : StageIx} {op : Operation} {c : CmdClass} {o : Origin}
    (same : SwitchingSafe s → ∀ e ∈ s.queue, e.stage = k → e.op = op) (protect : c = .protect → op = .open ∧ o ≠ .manual) :
    Keeps s { s with queue := s.queue.map fun x => if x.stage = k then mergeEntry x c o else x } := by
  set g : QueueEntry → QueueEntry := fun x => if x.stage = k then mergeEntry x c o else x with hg
  have stage x : (g x).stage = x.stage := by rw [hg]; dsimp only; split <;> rfl
  have op_ x : (g x).op = x.op := by rw [hg]; dsimp only; split <;> rfl
  have kept x : x.cls = .protect → (g x).cls = .protect := by
    intro hc; rw [hg]; dsimp only; split
    · exact (mergeEntry_cls x c o).2 (.inl hc)
    · exact hc
  have open_ (hs : SwitchingSafe s) {x} (hx : x ∈ s.queue) (hp : (g x).cls = .protect) : x.op = .open := by
    have plain (hc : x.cls = .protect) : x.op = .open := by
      cases ho : x.op using Operation.named with
      | opens => rfl
      | close => rw [hs.closeNormal x hx ho] at hc; cases hc
    rw [hg] at hp; dsimp only at hp
    split at hp
    · next hk =>
      rcases (mergeEntry_cls x c o).1 hp with hc | hc
      · exact plain hc
      · rw [same hs x hx hk]; exact (protect hc).1
    · exact plain hp
  refine .of_stages rfl (fun h => ?_) (fun h => ⟨h.nodup, h.exact⟩) (fun hs h => ?_) (fun _ _ _ h e => ?_) fun _ _ _ => id
  · refine ⟨List.pairwise_map.2 (h.single.imp fun {a b} ne => by rw [stage, stage]; exact ne), ?_, h.closing, h.opening, h.still,
      h.paced, fun m => ⟨by simp [(h.config m).1], (h.config m).2⟩, h.held, h.tagged⟩
    refine List.forall_mem_map.2 fun x hx ho => ?_
    cases hc : (g x).cls with
    | normal => rfl
    | protect => rw [op_, open_ h hx hc] at ho; cases ho
  · refine ⟨h.stage, List.forall_mem_map.2 fun x hx => ?_, List.forall_mem_map.2 fun x hx hp => ?_⟩
    · rw [stage]; exact h.known x hx
    · refine ⟨by rw [op_]; exact open_ hs hx hp, ?_⟩
      rw [hg] at hp ⊢; dsimp only at hp ⊢
      split at hp
      · next hk =>
        rw [if_pos hk]
        show (if x.cls = .normal ∧ c = .protect then o else x.origin) ≠ .manual
        split
        · next hc => exact (protect hc.2).2
        · next hc =>
          refine (h.protects x hx ?_).2
          rcases (mergeEntry_cls x c o).1 hp with hx' | hx'
          · exact hx'
          · cases hx'' : x.cls with
            | protect => rfl
            | normal => exact absurd ⟨hx'', hx'⟩ hc
      · next hk => rw [if_neg hk]; exact (h.protects x hx hp).2
  · rcases h e with hf | ho | ⟨x, hx, hk, hop, hc⟩
    · exact .inl hf
    · exact .inr (.inl ho)
    · exact .inr (.inr ⟨g x, List.mem_map_of_mem hx, (stage x).trans hk, (op_ x).trans hop, kept x hc⟩)

end Sys2Proof.Machine
end

section
/-! Sending, selection and gathering keep the standing facts. -/

namespace Sys2Proof.Machine

/-! ### Sending (R95) -/

theorem nextTag_ne_zero (t : Byte) : nextTag t ≠ 0 := by
  unfold nextTag
  split
  · decide
  · next h => intro e; apply h; bv_omega

/-- What a selection knows of the entry it sends. -/
structure Sendable (s : State) (e : QueueEntry) : Prop where
  mem : e ∈ s.queue
  grounded : (s.stage e.stage).inFlight = none
  ready : e.op = .close → s.closeFlights < s.link.closeLimit ∧ (s.stage e.stage).state = .openReady
    ∧ (s.stage e.stage).lockoutPending = false

/-- The state in which an entry has left the queue and its operation is in flight, before the notice and the frame. -/
def State.launched (s : State) (e : QueueEntry) : State :=
  State.modStage { s with
    tag := nextTag s.tag
    lastClose := if e.op = .close then some s.now else s.lastClose
    queue := s.queue.filter fun x => x.stage ≠ e.stage } e.stage (sendStage s e)

theorem launched_stage (s : State) (e : QueueEntry) : (s.launched e).stage e.stage = sendStage s e (s.stage e.stage) :=
  State.modStage_stage _ _ _

theorem launched_stage_ne (s : State) (e : QueueEntry) {j : StageIx} (h : j ≠ e.stage) :
    (s.launched e).stage j = s.stage j := State.modStage_stage_ne _ _ h

theorem mem_launched_queue {s : State} {e x : QueueEntry} :
    x ∈ (s.launched e).queue ↔ x ∈ s.queue ∧ x.stage ≠ e.stage := by
  simp [State.launched]

theorem sendStage_flies (s : State) (e : QueueEntry) (a : Stage) : (sendStage s e a).Flies := by
  refine ⟨?_, ?_, fun _ => rfl⟩ <;> unfold sendStage <;> cases e.op <;> simp

theorem launched_flying_ne {s : State} {e : QueueEntry} {op : Operation} {j : StageIx} (h : j ≠ e.stage) :
    (s.launched e).flying op j ↔ s.flying op j := by rw [State.flying, State.flying, launched_stage_ne s e h]

theorem launched_switching {s : State} {e : QueueEntry} (hm : s.mode ≠ .config) (ok : Sendable s e) (h : SwitchingSafe s) :
    SwitchingSafe (s.launched e) := by
  have flies (j) : ((s.launched e).stage j).Flies := by
    by_cases hj : j = e.stage
    · subst hj; rw [launched_stage]; exact sendStage_flies _ _ _
    · rw [launched_stage_ne s e hj]; exact h.flies j
  refine ⟨h.single.filter _, fun x hx => h.closeNormal x (mem_launched_queue.1 hx).1, fun j => (flies j).closing,
    fun j => (flies j).opening, fun j => (flies j).still, ?_, fun m => absurd m hm, h.held, nextTag_ne_zero _⟩
  cases ho : e.op using Operation.named with
  | opens =>
    refine (closeFlights_le fun j hj => ?_).trans h.paced
    by_cases hk : j = e.stage
    · subst hk
      obtain ⟨f, hf, hop⟩ := hj
      rw [launched_stage] at hf
      obtain rfl : _ = f := Option.some.inj hf
      rw [ho] at hop; cases hop
    · exact (launched_flying_ne hk).1 hj
  | close =>
    exact (closeFlights_le_succ e.stage fun j hj => (launched_flying_ne hj).1).trans (ok.ready ho).1

theorem launched_base {s : State} {e : QueueEntry} (ok : Sendable s e) (h : TripBase s) : TripBase (s.launched e) := by
  refine ⟨fun j => ?_, fun x hx => ?_, fun x hx => h.protects x (mem_launched_queue.1 hx).1⟩
  · by_cases hj : j = e.stage
    · subst hj
      rw [launched_stage]
      have known : (s.stage e.stage).cfg.enabled ≠ false := fun f => h.known e ok.mem ((h.stage e.stage).absent.2 f)
      unfold sendStage
      constructor <;> cases e.op <;> simp [known]
    · rw [launched_stage_ne s e hj]; exact h.stage j
  · obtain ⟨hx, hne⟩ := mem_launched_queue.1 hx
    rw [launched_stage_ne s e hne]; exact h.known x hx

theorem launched_stands {s : State} {e : QueueEntry} (ok : Sendable s e) {k : StageIx} (h : Stands s k) :
    Stands (s.launched e) k := by
  intro hp
  by_cases hk : k = e.stage
  · subst hk
    rw [launched_stage] at hp
    cases ho : e.op using Operation.named with
    | opens => exact .inr (.inl ⟨_, by rw [launched_stage]; rfl, ho⟩)
    | close =>
      obtain ⟨-, hst, hl⟩ := ok.ready ho
      simp [sendStage, lockoutKeeps, hst, hl] at hp
  · simp only [Stands, Covered, launched_stage_ne s e hk] at hp h ⊢
    rcases h hp with hf | ho | ⟨x, hx, hxk, hx'⟩
    · exact .inl hf
    · exact .inr (.inl ho)
    · exact .inr (.inr ⟨x, mem_launched_queue.2 ⟨hx, hxk ▸ hk⟩, hxk, hx'⟩)

theorem launched_inService {s : State} {e : QueueEntry} (h : InServiceSafe s) : InServiceSafe (s.launched e) := by
  refine .of_reported (s := s) (t := s.launched e) rfl (fun j => ?_) h
  by_cases hj : j = e.stage
  · subst hj; rw [launched_stage]; rfl
  · rw [launched_stage_ne s e hj]

theorem launched_locks {s : State} {e : QueueEntry} {k : StageIx} (h : lockoutKeeps (s.stage k) = true) :
    lockoutKeeps ((s.launched e).stage k) = true := by
  by_cases hk : k = e.stage
  · subst hk
    rw [launched_stage, lockoutKeeps, sendStage]
    simp [h]
  · rw [launched_stage_ne s e hk]; exact h

theorem launched_keeps {s : State} {e : QueueEntry} (hm : s.mode ≠ .config) (ok : SwitchingSafe s → Sendable s e) :
    Keeps s (s.launched e) :=
  .of_stages rfl (fun h => launched_switching hm (ok h) h) launched_inService (fun hs h => launched_base (ok hs) h)
    (fun _ hs _ => launched_stands (ok hs)) fun _ _ _ => launched_locks

theorem changeStage_portF (s : State) (k : StageIx) (f : Stage → Stage) : (s.changeStage k f).portF = s.portF := by
  rw [changeStage_only s k f]

/-- Behind the change of its record, sending is a notice and a frame. -/
theorem launched_sends {s : State} {e : QueueEntry} (room : s.portF.ins.length < 8) : Keeps (s.launched e) (s.sendEntry e) :=
  (changeStage_noticed _ _ _).trans (enterDown_keeps (by rw [changeStage_portF]; exact room) _ _ _)

theorem sendEntry_keeps {s : State} {e : QueueEntry} (hm : s.mode ≠ .config) (room : s.portF.ins.length < 8)
    (ok : SwitchingSafe s → Sendable s e) : Keeps s (s.sendEntry e) := (launched_keeps hm ok).trans (launched_sends room)

theorem sendEntry_plain {s : State} {e : QueueEntry} (room : s.portF.ins.length < 8) : KeepsPlain s (s.sendEntry e) :=
  (KeepsPlain.of_stages (s := s) (t := s.launched e) rfl launched_inService).trans (launched_sends room).toKeepsPlain

/-! ### Selection (R93) -/

theorem State.closeAllowed_iff (s : State) : s.closeAllowed = true ↔
    s.closeFlights < s.link.closeLimit ∧ ∀ t, s.lastClose = some t → s.link.closeGap ≤ elapsed s.now t := by
  unfold State.closeAllowed
  cases s.lastClose <;> simp

/-- The second pass takes entries out of the queue with their notices, and touches nothing else. -/
theorem normalEntry_only (es : List QueueEntry) : ∀ s : State,
    onlyNoticed { s with queue := (s.normalEntry es).1.queue } (s.normalEntry es).1 := by
  induction es with
  | nil => exact fun s => rfl
  | cons e es ih =>
    intro s
    unfold State.normalEntry
    split
    · exact ih s
    · split
      · rfl
      · split
        · have h := ih (s.dropEntry e .notReady)
          have g := dropEntry_only s e .notReady
          obtain ⟨_, _, _, g⟩ := onlyNoticed_iff.1 g
          obtain ⟨_, _, _, h⟩ := onlyNoticed_iff.1 h
          rw [h, g]; rfl
        · split
          · rfl
          · exact ih s

theorem normalEntry_plain (es : List QueueEntry) : ∀ s : State, KeepsPlain s (s.normalEntry es).1 := by
  induction es with
  | nil => exact fun s => (Keeps.refl s).toKeepsPlain
  | cons e es ih =>
    intro s
    unfold State.normalEntry
    split
    · exact ih s
    · split
      · exact (Keeps.refl s).toKeepsPlain
      · split
        · exact (dropEntry_plain s e .notReady).trans (ih _)
        · split
          · exact (Keeps.refl s).toKeepsPlain
          · exact ih s

/-- The entries behind a dropped one are still in the queue. -/
theorem SwitchingSafe.rest_sublist {s : State} (hs : SwitchingSafe s) {e : QueueEntry} {es : List QueueEntry}
    (sub : (e :: es).Sublist s.queue) (r : DropReason) : es.Sublist (s.dropEntry e r).queue := by
  have single : (e :: es).Pairwise fun a b => a.stage ≠ b.stage := hs.single.sublist sub
  have others : (es.filter fun x => x.stage ≠ e.stage) = es :=
    List.filter_eq_self.2 fun x hx => by simpa using (List.rel_of_pairwise_cons single hx).symm
  rw [dropEntry_queue, ← others]
  exact ((List.sublist_cons_self e es).trans sub).filter _

/-- The second pass over entries of the queue: what its removals keep holds behind it, and the entry it finds may be sent. -/
theorem normalEntry_induction {P : State → Prop}
    (drop : ∀ (s : State) (e : QueueEntry), SwitchingSafe s → e ∈ s.queue → e.cls = .normal → P s →
      P (s.dropEntry e .notReady)) (es : List QueueEntry) : ∀ s : State, SwitchingSafe s → es.Sublist s.queue → P s →
    SwitchingSafe (s.normalEntry es).1 ∧ P (s.normalEntry es).1
      ∧ ∀ e, (s.normalEntry es).2 = some e → Sendable (s.normalEntry es).1 e := by
  induction es with
  | nil => exact fun s hs _ h => ⟨hs, h, fun e he => by cases he⟩
  | cons e es ih =>
    intro s hs sub h
    have mem : e ∈ s.queue := sub.subset List.mem_cons_self
    have rest := ih s hs ((List.sublist_cons_self e es).trans sub) h
    unfold State.normalEntry
    split
    · exact rest
    next hcls =>
      obtain ⟨hn, hfl⟩ := not_or.1 hcls
      have normal : e.cls = .normal := by cases h : e.cls with | normal => rfl | protect => exact absurd h hn
      have grounded : (s.stage e.stage).inFlight = none := by simpa [State.inFlightOf] using hfl
      split
      · next ho =>
        refine ⟨hs, h, fun x hx => ?_⟩
        obtain rfl := Option.some.inj hx
        exact ⟨mem, grounded, fun hc => by rw [ho] at hc; cases hc⟩
      · split
        · have dropped := dropEntry_keeps_of_normal (r := .notReady) (fun _ => mem) fun _ _ => normal
          exact ih _ (dropped.switching hs) (hs.rest_sublist sub _) (drop s e hs mem normal h)
        · next hready =>
          split
          · next pace =>
            refine ⟨hs, h, fun x hx => ?_⟩
            obtain rfl := Option.some.inj hx
            exact ⟨mem, grounded, fun _ => ⟨(s.closeAllowed_iff.1 pace).1, by simpa using hready⟩⟩
          · exact rest

/-- The first pass finds an entry that may be sent. -/
theorem protectEntry_sends {s : State} {e : QueueEntry} (h : s.protectEntry = some e) (hs : SwitchingSafe s) :
    Sendable s e := by
  have found := List.find?_some h
  simp only [Bool.and_eq_true, beq_iff_eq, Option.isNone_iff_eq_none] at found
  have mem : e ∈ s.queue := List.mem_of_find?_eq_some h
  refine ⟨mem, found.2, fun ho => ?_⟩
  have normal := hs.closeNormal e mem ho
  rw [found.1] at normal; cases normal

/-- What a selection does first: nothing, or it sends an entry, or it ends behind the removals of its second pass. -/
theorem select_cases (n : Nat) (s : State) : State.select (n + 1) s = s ∨ s.mode ≠ .config ∧ s.portF.ins.length < 8 ∧
    ((∃ e, s.protectEntry = some e ∧ State.select (n + 1) s = State.select n (s.sendEntry e))
    ∨ (s.protectEntry = none ∧ ∃ e, (s.normalEntry s.queue).2 = some e
        ∧ State.select (n + 1) s = State.select n ((s.normalEntry s.queue).1.sendEntry e))
    ∨ (s.protectEntry = none ∧ (s.normalEntry s.queue).2 = none ∧ State.select (n + 1) s = (s.normalEntry s.queue).1)) := by
  rw [State.select]
  split
  · exact .inl rfl
  next h =>
    obtain ⟨hm, room⟩ := not_or.1 h
    refine .inr ⟨hm, not_le.1 room, ?_⟩
    split
    · next e he => exact .inl ⟨e, he, rfl⟩
    · next hn =>
      split
      · next s' e he => exact .inr (.inl ⟨hn, e, by rw [he], by rw [he]⟩)
      · next s' he => exact .inr (.inr ⟨hn, by rw [he], by rw [he]⟩)

/-- A selection is a sequence of removals and sendings: what these keep holds behind it. -/
theorem select_induction {P : State → Prop}
    (drop : ∀ (s : State) (e : QueueEntry), SwitchingSafe s → e ∈ s.queue → e.cls = .normal → P s →
      P (s.dropEntry e .notReady))
    (send : ∀ (s : State) (e : QueueEntry), SwitchingSafe s → s.mode ≠ .config → s.portF.ins.length < 8 → Sendable s e →
      P s → P (s.sendEntry e)) (n : Nat) : ∀ s : State, SwitchingSafe s → P s → P (State.select n s) := by
  induction n with
  | zero => exact fun _ _ h => h
  | succ n ih =>
    intro s hs h
    obtain ⟨hs', h', sends⟩ := normalEntry_induction drop s.queue s hs (List.Sublist.refl _) h
    have only := normalEntry_only s.queue s
    rcases select_cases n s with e | ⟨hm, room, ⟨e, he, e'⟩ | ⟨-, e, he, e'⟩ | ⟨-, -, e'⟩⟩
    · rw [e]; exact h
    · have ok := protectEntry_sends he hs
      rw [e']
      exact ih _ ((sendEntry_keeps hm room fun _ => ok).switching hs) (send s e hs hm room ok h)
    · have hm' : (s.normalEntry s.queue).1.mode ≠ .config := by rw [only]; exact hm
      have room' : (s.normalEntry s.queue).1.portF.ins.length < 8 := by rw [only]; exact room
      rw [e']
      exact ih _ ((sendEntry_keeps hm' room' fun _ => sends e he).switching hs') (send _ e hs' hm' room' (sends e he) h')
    · rw [e']; exact h'

theorem select_plain (n : Nat) : ∀ s : State, KeepsPlain s (State.select n s) := by
  induction n with
  | zero => exact fun s => (Keeps.refl s).toKeepsPlain
  | succ n ih =>
    intro s
    have only := normalEntry_only s.queue s
    rcases select_cases n s with h | ⟨-, room, ⟨e, -, h⟩ | ⟨-, e, -, h⟩ | ⟨-, -, h⟩⟩ <;> rw [h]
    · exact (Keeps.refl s).toKeepsPlain
    · exact (sendEntry_plain room).trans (ih _)
    · exact ((normalEntry_plain _ s).trans (sendEntry_plain (by rw [only]; exact room))).trans (ih _)
    · exact normalEntry_plain _ s

theorem select_keeps (n : Nat) (s : State) : Keeps s (State.select n s) := by
  by_cases hs : SwitchingSafe s
  · exact select_induction (P := Keeps s)
      (fun _ _ _ mem normal h => h.trans (dropEntry_keeps_of_normal (fun _ => mem) fun _ _ => normal))
      (fun _ _ _ hm room ok h => h.trans (sendEntry_keeps hm room fun _ => ok)) n s hs (.refl s)
  · exact .of_unsafe (select_plain n s) hs

theorem selection_keeps (s : State) : Keeps s s.selection := select_keeps _ s

/-! ### Gathering (R88 to R91) -/

/-- What every submitting block respects: a CLOSE is NORMAL, and what is PROTECT is an OPEN of the part's own. -/
def Submits (op : Operation) (cls : CmdClass) (org : Origin) : Prop := cls = .protect → op = .open ∧ org ≠ .manual

theorem submits_normal (op : Operation) (org : Origin) : Submits op .normal org := fun h => by cases h

theorem submits_protect {org : Origin} (h : org ≠ .manual) : Submits .open .protect org := fun _ => ⟨rfl, h⟩

theorem gatherFresh_keeps {s : State} {k : StageIx} {op : Operation} {cls : CmdClass} {org : Origin} (hm : s.mode ≠ .config)
    (free : ∀ e ∈ s.queue, e.stage ≠ k) (sub : Submits op cls org) : Keeps s (s.gatherFresh k op cls org).1 := by
  unfold State.gatherFresh
  split
  · exact .refl s
  next known =>
    split
    · exact .refl s
    · split
      · exact .refl s
      · refine Keeps.trans (append_keeps (e := ⟨k, op, cls, org, s.now⟩) hm free known (fun ho => ?_) sub) (selection_keeps _)
        cases hc : cls with
        | normal => rfl
        | protect => exact absurd ((sub hc).1.symm.trans ho) nofun

theorem gather_keeps (s : State) (k : StageIx) {op : Operation} {cls : CmdClass} {org : Origin} (sub : Submits op cls org) :
    Keeps s (s.gather k op cls org).1 := by
  unfold State.gather
  split
  · exact .refl s
  next hm =>
    split
    · next he => exact gatherFresh_keeps hm (State.entryOf_none.1 he) sub
    · next e he =>
      obtain ⟨mem, hk⟩ := State.entryOf_some he
      split
      · next same =>
        split
        · exact .refl s
        · have merged := merge_keeps (s := s) (k := k) (op := op) (c := cls) (o := org)
            (fun hs x hx hxk => by rw [hs.unique mem hx (hxk.trans hk.symm)]; exact same) sub
          dsimp only
          split
          · exact merged
          · exact merged.trans (selection_keeps _)
      · next differs =>
        split
        · exact .refl s
        · next hcls =>
          have normal (hs : SwitchingSafe s) : e.cls = .normal := by
            cases ho : e.op using Operation.named with
            | close => exact hs.closeNormal e mem ho
            | opens =>
              cases hc : e.cls with
              | normal => rfl
              | protect =>
                cases hop : op using Operation.named with
                | opens => exact absurd (ho.trans hop.symm) differs
                | close => exact absurd ⟨hop, hc⟩ hcls
          refine (dropEntry_keeps_of_normal (fun _ => mem) fun hs _ => normal hs).trans (gatherFresh_keeps ?_ ?_ sub)
          · rw [dropEntry_only s e .superseded]; exact hm
          · rw [dropEntry_queue]; intro x hx; simpa [hk] using (List.mem_filter.1 hx).2

/-! ### Satisfied entries (R92) -/

/-- A satisfied entry may go: a stage under a lockout is FAILED or not reported OPEN. -/
theorem testSatisfied_keeps {s : State} {k : StageIx} (safe : SwitchingSafe s → TripBase s →
    (s.stage k).lockoutPending = true → (s.stage k).state = .failed ∨ (s.stage k).reported ≠ some .open) :
    Keeps s (s.testSatisfied k) := by
  unfold State.testSatisfied
  split
  · exact .refl s
  next e he =>
    obtain ⟨mem, rfl⟩ := State.entryOf_some he
    split
    · next sat =>
      simp only [Bool.and_eq_true, decide_eq_true_eq] at sat
      refine dropEntry_keeps (fun _ => mem) fun hs hb hc hp => ?_
      rcases safe hs hb hp with hf | hr
      · exact hf
      · have ho := (hb.protects e mem hc).1
        rw [ho] at sat
        cases hrep : (s.stage e.stage).reported with
        | none => rw [hrep] at sat; simp at sat
        | some p => cases p <;> simp_all [positionOp]
    · exact .refl s

end Sys2Proof.Machine
end

section
/-! Capture keeps its bounds, and with them every standing fact. -/

namespace Sys2Proof.Machine

/-! ### Triggers (R166, R167) -/

theorem startRecord_capture {s : State} {c : Cause} {k : Option StageIx} {w : Option WindowIx} (h : CaptureSafe s) :
    CaptureSafe (s.startRecord c k w) :=
  ⟨h.count, h.record, (by rintro (e | e) <;> cases e), fun _ => nofun⟩

theorem joinRecord_capture {s : State} (h : CaptureSafe s) : CaptureSafe s.joinRecord :=
  ⟨h.count, h.record, h.ring, fun e => by simpa [State.joinRecord] using h.header e⟩

theorem trigger_capture {s : State} (c : Cause) (k : Option StageIx) (w : Option WindowIx) (h : CaptureSafe s) :
    CaptureSafe (s.trigger c k w) := by
  unfold State.trigger State.triggerWith
  split
  · exact h
  · split
    · exact startRecord_capture h
    · exact joinRecord_capture h
    · exact ⟨h.count, h.record, h.ring, h.header⟩
    · exact ⟨h.count, h.record, h.ring, h.header⟩

theorem trigger_missed {s : State} (c : Cause) (k : Option StageIx) (w : Option WindowIx) (h : s.cap.missed ≤ 4294967295) :
    (s.trigger c k w).cap.missed ≤ 4294967295 := by
  unfold State.trigger State.triggerWith
  split
  · exact h
  · split
    · exact h
    · exact h
    · exact bump_le h
    · exact bump_le h

theorem trigger_keeps (s : State) (c : Cause) (k : Option StageIx) (w : Option WindowIx) : Keeps s (s.trigger c k w) :=
  .of_capture (trigger_only s c k w) (trigger_capture c k w) (trigger_missed c k w)

/-! ### The end of a recording (R168, R169) -/

theorem holdRecord_keeps {s : State} (recording : s.cap.status = .recording) (cut : Bool) : Keeps s (s.holdRecord cut) := by
  have held : Keeps s { s with cap := { s.cap with status := .held, cutShort := cut } } :=
    .of_capture rfl (fun h => ⟨h.count, h.record, (by rintro (e | e) <;> cases e),
      fun _ => h.header (.inl recording)⟩) id
  unfold State.holdRecord
  dsimp only
  split
  · exact held.trans (notice_keeps _ _)
  · exact held

theorem rearmed_cases (s : State) : s.rearmed = .disarmed ∨ s.rearmed = .armed := by
  unfold State.rearmed; split
  · exact .inl rfl
  · exact .inr rfl

/-- Outside a record with an empty store, capture is within its bounds. -/
theorem CaptureSafe.of_emptied {s t : State} (hp : t.cap.preCount = s.cap.preCount) (hst : t.cap.store = [])
    (hs : t.cap.status = .disarmed ∨ t.cap.status = .armed) (h : CaptureSafe s) : CaptureSafe t :=
  ⟨hp ▸ h.count, by simp [hst], fun _ => by simp [hst], fun e => by rcases hs with x | x <;> simp [x] at e⟩

theorem cutRecording_keeps {s : State} (recording : s.cap.status = .recording) : Keeps s s.cutRecording := by
  unfold State.cutRecording
  split
  · next empty => exact .of_capture rfl (.of_emptied rfl empty (rearmed_cases s)) id
  · exact holdRecord_keeps recording true

theorem channelsChanged_keeps (s : State) : Keeps s s.channelsChanged := by
  unfold State.channelsChanged
  split
  · next h => exact .of_capture rfl (.of_emptied rfl rfl (.inl h)) id
  · exact .of_capture rfl (.of_emptied rfl rfl (rearmed_cases s)) id
  · next h => exact cutRecording_keeps h
  · exact .refl s

theorem captureStoreTimeout_keeps (s : State) : Keeps s s.captureStoreTimeout := by
  unfold State.captureStoreTimeout
  split
  · split
    · next h => exact .of_capture rfl (.of_emptied rfl rfl (.inl h)) id
    · next h => exact .of_capture rfl (.of_emptied rfl rfl (.inr h)) id
    · next h => exact cutRecording_keeps h
    · exact .refl s
  · exact .refl s

/-! ### Taking in a closed window (R165, R168) -/

theorem openCaptureWindow_keeps {s : State} (r : Role) (c : ClosedWindow)
    (short : s.cap.status = .recording → s.cap.store.length < 16) : Keeps s (s.openCaptureWindow r c) := by
  refine .of_capture rfl (fun h => ?_) id
  have count := h.count
  refine ⟨count, ?_, fun e => ?_, h.header⟩ <;> simp only [State.openCaptureWindow] at *
  · split
    · next rec_ => have := short rec_; simp; omega
    · simp; omega
  · rw [if_neg (by rcases e with e | e <;> rw [e] <;> decide)]
    simp; omega

theorem fillCaptureWindow_keeps (s : State) (r : Role) (c : ClosedWindow) : Keeps s (s.fillCaptureWindow r c) :=
  .of_capture rfl (fun h => ⟨h.count, by simpa [State.fillCaptureWindow] using h.record,
    by simpa [State.fillCaptureWindow] using h.ring, h.header⟩) id

theorem completeIfWhole_keeps (s : State) (w : WindowIx) : Keeps s (s.completeIfWhole w) := by
  unfold State.completeIfWhole
  split
  · next h =>
    simp only [State.lastWindowWhole, Bool.and_eq_true, decide_eq_true_eq] at h
    exact holdRecord_keeps h.1.1 false
  · exact .refl s

theorem storeWindow_keeps (s : State) (r : Role) (c : ClosedWindow) : Keeps s (s.storeWindow r c) := by
  unfold State.storeWindow
  split
  · next h =>
    have empty : s.cap.store = [] := List.getLast?_eq_none_iff.1 h
    exact (openCaptureWindow_keeps r c fun _ => by rw [empty]; decide).trans (completeIfWhole_keeps _ _)
  · split
    · split
      · next full =>
        simp only [Bool.and_eq_true, decide_eq_true_eq] at full
        exact holdRecord_keeps full.1 false
      · next short =>
        simp only [Bool.and_eq_true, decide_eq_true_eq, not_and, not_le] at short
        exact (openCaptureWindow_keeps r c short).trans (completeIfWhole_keeps _ _)
    · split
      · exact (fillCaptureWindow_keeps s r c).trans (completeIfWhole_keeps _ _)
      · exact .refl s

theorem captureTake_keeps (s : State) (r : Role) (c : ClosedWindow) : Keeps s (s.captureTake r c) := by
  unfold State.captureTake
  split
  · exact .refl s
  · refine Keeps.trans ?_ (storeWindow_keeps _ r c)
    exact .of_capture rfl (fun h => ⟨h.count, h.record, h.ring, h.header⟩) id

end Sys2Proof.Machine
end

section
/-! A PROTECT OPEN that is submitted stands: where gathering and selection leave it. -/

namespace Sys2Proof.Machine

/-- A PROTECT OPEN of the stage is queued or in flight. -/
def Ordered (s : State) (k : StageIx) : Prop :=
  (∃ e ∈ s.queue, e.stage = k ∧ e.op = .open ∧ e.cls = .protect)
    ∨ ∃ f, (s.stage k).inFlight = some f ∧ f.op = .open ∧ f.cls = .protect

theorem Ordered.covered {s : State} {k : StageIx} (h : Ordered s k) : Covered s k :=
  .inr (h.elim .inr fun ⟨f, hf, ho, _⟩ => .inl ⟨f, hf, ho⟩)

/-- Entries of other stages leave the queue. -/
theorem Ordered.of_other {s t : State} {k j : StageIx} (hst : t.stage k = s.stage k) (hj : j ≠ k)
    (hq : ∀ x ∈ s.queue, x.stage ≠ j → x ∈ t.queue) (h : Ordered s k) : Ordered t k := by
  rcases h with ⟨x, hx, hk, hx'⟩ | h
  · exact .inl ⟨x, hq x hx fun e => hj (e.symm.trans hk), hk, hx'⟩
  · exact .inr (by rwa [hst])

theorem dropEntry_ordered {s : State} {e : QueueEntry} {r : DropReason} {k : StageIx} (hs : SwitchingSafe s)
    (mem : e ∈ s.queue) (normal : e.cls = .normal) (h : Ordered s k) : Ordered (s.dropEntry e r) k := by
  rcases h with ⟨x, hx, hk, ho, hc⟩ | h
  · refine .inl ⟨x, ?_, hk, ho, hc⟩
    rw [dropEntry_queue]
    refine List.mem_filter.2 ⟨hx, decide_eq_true fun hst => ?_⟩
    rw [hs.unique mem hx hst, normal] at hc; cases hc
  · exact .inr (by rwa [dropEntry_stage])

theorem sendEntry_ordered {s : State} {e : QueueEntry} {k : StageIx} (hs : SwitchingSafe s) (ok : Sendable s e)
    (h : Ordered s k) : Ordered (s.sendEntry e) k := by
  by_cases hk : e.stage = k
  · subst hk
    rcases h with ⟨x, hx, hst, ho, hc⟩ | ⟨f, hf, -⟩
    · obtain rfl := hs.unique ok.mem hx hst
      exact .inr ⟨_, by rw [sendEntry_stage]; rfl, ho, hc⟩
    · rw [ok.grounded] at hf; cases hf
  · refine h.of_other (j := e.stage) (sendEntry_stage_ne s e (Ne.symm hk)) hk fun x hx hne => ?_
    rw [sendEntry_queue]
    exact List.mem_filter.2 ⟨hx, decide_eq_true hne⟩

theorem selection_ordered {s : State} {k : StageIx} (hs : SwitchingSafe s) (h : Ordered s k) : Ordered s.selection k :=
  select_induction (P := fun s => Ordered s k) (fun _ _ hs mem normal => dropEntry_ordered hs mem normal)
    (fun _ _ hs _ _ ok => sendEntry_ordered hs ok) _ s hs h

theorem gatherFresh_ordered {s : State} {k : StageIx} {org : Origin} (hs : SwitchingSafe s) (hm : s.mode ≠ .config)
    (free : ∀ e ∈ s.queue, e.stage ≠ k) (known : (s.stage k).state ≠ .absent) (hr : (s.stage k).reported ≠ some .open)
    (horg : org ≠ .manual) :
    (∃ f, (s.stage k).inFlight = some f ∧ f.op = .open ∧ s.gatherFresh k .open .protect org = (s, .already))
    ∨ (s.gatherFresh k .open .protect org).2 = .queued ∧ Ordered (s.gatherFresh k .open .protect org).1 k := by
  unfold State.gatherFresh
  rw [if_neg known, if_neg (by simp)]
  split
  · next there =>
    unfold State.expected State.inFlightOf at there
    split at there
    · next f hf => exact .inl ⟨f, hf, Option.some.inj there, rfl⟩
    · cases hrep : (s.stage k).reported with
      | none => rw [hrep] at there; cases there
      | some p => cases p <;> simp_all [positionOp]
  · have appended := append_keeps (e := ⟨k, .open, .protect, org, s.now⟩) hm free known (by simp) fun _ => ⟨rfl, horg⟩
    exact .inr ⟨rfl, selection_ordered (appended.switching hs) (.inl ⟨_, List.mem_append_right _ (List.mem_singleton.2 rfl), rfl, rfl, rfl⟩)⟩

/-- Where gathering leaves a PROTECT OPEN of a known stage not reported OPEN: beside an OPEN in flight, or queued or sent. -/
theorem gather_ordered {s : State} {k : StageIx} {org : Origin} (hs : SwitchingSafe s) (hm : s.mode ≠ .config)
    (known : (s.stage k).state ≠ .absent) (hr : (s.stage k).reported ≠ some .open) (horg : org ≠ .manual) :
    ((s.gather k .open .protect org).2 = .already ∧
      ∃ f, ((s.gather k .open .protect org).1.stage k).inFlight = some f ∧ f.op = .open)
    ∨ (s.gather k .open .protect org).2 ≠ .already ∧ Ordered (s.gather k .open .protect org).1 k := by
  have fresh {u : State} (hu : SwitchingSafe u) (hum : u.mode ≠ .config) (free : ∀ e ∈ u.queue, e.stage ≠ k)
      (hst : u.stage k = s.stage k) :
      ((u.gatherFresh k .open .protect org).2 = .already ∧
        ∃ f, ((u.gatherFresh k .open .protect org).1.stage k).inFlight = some f ∧ f.op = .open)
      ∨ (u.gatherFresh k .open .protect org).2 ≠ .already ∧ Ordered (u.gatherFresh k .open .protect org).1 k := by
    rcases gatherFresh_ordered hu hum free (hst ▸ known) (hst ▸ hr) horg with ⟨f, hf, ho, e⟩ | ⟨e, h⟩
    · exact .inl (by rw [e]; exact ⟨rfl, f, hf, ho⟩)
    · exact .inr ⟨by rw [e]; nofun, h⟩
  unfold State.gather
  rw [if_neg hm]
  split
  · next he => exact fresh hs hm (State.entryOf_none.1 he) rfl
  · next e he =>
    obtain ⟨mem, hk⟩ := State.entryOf_some he
    split
    · next same =>
      rw [if_neg (by simp)]
      have merged := merge_keeps (s := s) (k := k) (op := .open) (c := .protect) (o := org)
        (fun hs x hx hxk => by rw [hs.unique mem hx (hxk.trans hk.symm)]; exact same) fun _ => ⟨rfl, horg⟩
      have placed : Ordered { s with queue := s.queue.map fun x => if x.stage = k then mergeEntry x .protect org else x } k :=
        .inl ⟨mergeEntry e .protect org, List.mem_map.2 ⟨e, mem, if_pos hk⟩, hk, same, (mergeEntry_cls _ _ _).2 (.inr rfl)⟩
      refine .inr ⟨nofun, ?_⟩
      dsimp only
      split
      · exact placed
      · exact selection_ordered (merged.switching hs) placed
    · next differs =>
      rw [if_neg (by simp)]
      have close : e.op = .close := by cases h : e.op using Operation.named with | close => rfl | opens => exact absurd h differs
      have dropped := dropEntry_keeps_of_normal (r := .superseded) (fun _ => mem) fun hs _ => hs.closeNormal e mem close
      refine fresh (dropped.switching hs) ?_ ?_ (dropEntry_stage _ _ _ _)
      · rw [dropEntry_only s e .superseded]; exact hm
      · rw [dropEntry_queue]; intro x hx; simpa [hk] using (List.mem_filter.1 hx).2

theorem gather_covers {s : State} {k : StageIx} {org : Origin} (hs : SwitchingSafe s) (hm : s.mode ≠ .config)
    (known : (s.stage k).state ≠ .absent) (hr : (s.stage k).reported ≠ some .open) (horg : org ≠ .manual) :
    Covered (s.gather k .open .protect org).1 k := by
  rcases gather_ordered hs hm known hr horg with ⟨-, h⟩ | ⟨-, h⟩
  · exact .inr (.inl h)
  · exact h.covered

end Sys2Proof.Machine
end

section
/-! The elements of chapters 6 to 8 and the handover keep the standing facts. -/

namespace Sys2Proof.Machine

/-! ### Changes that leave every stage's switching state as it is -/

theorem Stage.Calm.trans {a b c : Stage} (h : a.Calm b) (g : b.Calm c) : a.Calm c where
  state := g.state.trans h.state
  enabled := g.enabled.trans h.enabled
  reported := g.reported.trans h.reported
  awaiting := g.awaiting.trans h.awaiting
  pending := g.pending.trans h.pending
  flight := g.flight.trans h.flight
  moving := by
    rcases g.moving with m | m
    · rw [m]; exact h.moving
    · exact .inr m

/-- Every standing fact is kept, and every stage record changes calmly. -/
structure Steady (s t : State) : Prop where
  keeps : Keeps s t
  mode : t.mode = s.mode
  queue : t.queue = s.queue
  calm : ∀ k, (s.stage k).Calm (t.stage k)

theorem Steady.refl (s : State) : Steady s s := ⟨.refl s, rfl, rfl, fun _ => .refl _⟩

theorem Steady.trans {s t u : State} (h : Steady s t) (g : Steady t u) : Steady s u :=
  ⟨h.keeps.trans g.keeps, g.mode.trans h.mode, g.queue.trans h.queue, fun k => (h.calm k).trans (g.calm k)⟩

theorem modStage_steady {s : State} {k : StageIx} {f : Stage → Stage} (h : (s.stage k).Calm (f (s.stage k))) :
    Steady s (s.modStage k f) :=
  ⟨modStage_calm h, rfl, rfl, State.forall_modStage (P := fun j b => (s.stage j).Calm b) h fun _ _ => .refl _⟩

theorem notice_steady (s : State) (n : Notice) : Steady s (s.notice n) :=
  ⟨notice_keeps s n, notice_mode s n, notice_queue s n, fun k => by rw [notice_stage]; exact .refl _⟩

theorem trigger_steady (s : State) (c : Cause) (k : Option StageIx) (w : Option WindowIx) : Steady s (s.trigger c k w) :=
  ⟨trigger_keeps s c k w, by rw [trigger_only s c k w], trigger_queue s c k w, fun j => by rw [trigger_stage]; exact .refl _⟩

theorem modStage_notice_steady {s : State} {k : StageIx} {f : Stage → Stage} (h : (s.stage k).Calm (f (s.stage k)))
    (n : Notice) : Steady s ((s.modStage k f).notice n) := (modStage_steady h).trans (notice_steady _ n)

/-! ### Unbalance protection (chapter 7) -/

theorem clearAlarm_steady (s : State) (k : StageIx) (c : ClearCause) (u : Option Nat) (w : Option WindowIx) :
    Steady s (s.clearAlarm k c u w) := by
  unfold State.clearAlarm
  split
  · exact modStage_notice_steady ⟨rfl, rfl, rfl, rfl, rfl, rfl, .inl rfl⟩ _
  · exact .refl s

theorem clearAlarmUnlessLocked_steady (s : State) (k : StageIx) (c : ClearCause) (u : Option Nat) (w : Option WindowIx) :
    Steady s (s.clearAlarmUnlessLocked k c u w) := by
  unfold State.clearAlarmUnlessLocked
  split
  · exact .refl s
  · exact clearAlarm_steady s k c u w

theorem abandonCapture_steady (s : State) (k : StageIx) (e : Abandon) : Steady s (s.abandonCapture k e) := by
  unfold State.abandonCapture
  split
  · exact modStage_notice_steady ⟨rfl, rfl, rfl, rfl, rfl, rfl, .inl rfl⟩ _
  · exact .refl s

theorem unbalanceLeftClosed_steady (s : State) (k : StageIx) : Steady s (s.unbalanceLeftClosed k) :=
  ((modStage_steady ⟨rfl, rfl, rfl, rfl, rfl, rfl, .inl rfl⟩).trans (clearAlarmUnlessLocked_steady _ _ _ _ _)).trans
    (abandonCapture_steady _ _ _)

theorem unbalanceSettings_steady (s : State) (k : StageIx) : Steady s (s.unbalanceSettings k) :=
  (modStage_steady ⟨rfl, rfl, rfl, rfl, rfl, rfl, .inl rfl⟩).trans (clearAlarmUnlessLocked_steady _ _ _ _ _)

theorem unbalanceAlarmStep_steady (s : State) (k : StageIx) (old u : Nat) (w : WindowIx) :
    Steady s (s.unbalanceAlarmStep k old u w) := by
  unfold State.unbalanceAlarmStep
  dsimp only
  split
  · exact (modStage_notice_steady ⟨rfl, rfl, rfl, rfl, rfl, rfl, .inl rfl⟩ _).trans (trigger_steady _ _ _ _)
  · split
    · exact clearAlarmUnlessLocked_steady _ _ _ _ _
    · exact .refl s

theorem finishCapture_steady (s : State) (k : StageIx) (w : WindowIx) : Steady s (s.finishCapture k w) := by
  unfold State.finishCapture
  split
  · split
    · exact modStage_notice_steady ⟨rfl, rfl, rfl, rfl, rfl, rfl, .inl rfl⟩ _
    · exact .refl s
  · exact .refl s

theorem raiseFlight_op (f : InFlight) : (raiseFlight f).op = f.op := by
  unfold raiseFlight; split <;> rfl

theorem raiseFlight_calm (a : Stage) : a.Calm { a with inFlight := a.inFlight.map raiseFlight } :=
  ⟨rfl, rfl, rfl, rfl, rfl, by cases a.inFlight <;> simp [raiseFlight_op], .inl rfl⟩

/-- A trip's submission is its gathering and, found ALREADY, the raising of the operation in flight. -/
theorem submitTrip_cases (s : State) (k : StageIx) :
    ((s.gather k .open .protect .unbalanceTrip).2 = .already ∧ s.submitTrip k =
      ((s.gather k .open .protect .unbalanceTrip).1.modStage k fun a => { a with inFlight := a.inFlight.map raiseFlight }, .already))
    ∨ ((s.gather k .open .protect .unbalanceTrip).2 ≠ .already ∧
      s.submitTrip k = s.gather k .open .protect .unbalanceTrip) := by
  unfold State.submitTrip
  split
  · next s' h => exact .inl ⟨by rw [h], by rw [h]⟩
  · next r h =>
    exact .inr ⟨fun e => h (s.gather k .open .protect .unbalanceTrip).1 (Prod.ext rfl e), rfl⟩

theorem gather_trip_keeps (s : State) (k : StageIx) : Keeps s (s.gather k .open .protect .unbalanceTrip).1 :=
  gather_keeps s k (submits_protect (by decide))

theorem submitTrip_keeps (s : State) (k : StageIx) : Keeps s (s.submitTrip k).1 := by
  rcases submitTrip_cases s k with ⟨-, h⟩ | ⟨-, h⟩ <;> rw [h]
  · dsimp only
    exact (gather_trip_keeps s k).trans (modStage_calm (raiseFlight_calm _))
  · exact gather_trip_keeps s k

/-- The PROTECT OPEN of a trip stands, queued or in flight (R136, R137). -/
theorem submitTrip_covers {s : State} {k : StageIx} (hs : SwitchingSafe s) (hm : s.mode ≠ .config)
    (known : (s.stage k).state ≠ .absent) (hr : (s.stage k).reported ≠ some .open) : Covered (s.submitTrip k).1 k := by
  have covers := gather_covers (org := .unbalanceTrip) hs hm known hr (by decide)
  rcases submitTrip_cases s k with ⟨-, h⟩ | ⟨-, h⟩ <;> rw [h]
  · have calm := raiseFlight_calm ((s.gather k .open .protect .unbalanceTrip).1.stage k)
    have grown := gather_trip_keeps s k
    rcases covers with hf | hf | hq
    · exact .inl (by rw [State.modStage_stage]; exact hf)
    · exact .inr (.inl (by rw [State.modStage_stage]; exact (flight_op_iff calm.flight .open).2 hf))
    · exact .inr (.inr hq)
  · exact covers

/-- What changes no queue and changes every record calmly keeps the stage covered. -/
theorem Steady.covered {s t : State} (h : Steady s t) {k : StageIx} (g : Covered s k) : Covered t k := by
  rcases g with hf | hf | hq
  · exact .inl ((h.calm k).state.trans hf)
  · exact .inr (.inl ((flight_op_iff (h.calm k).flight .open).2 hf))
  · exact .inr (.inr (h.queue ▸ hq))

theorem unbalanceTripStep_keeps {s : State} {k : StageIx} (hm : s.mode ≠ .config) (he : (s.stage k).cfg.enabled = true)
    (hr : (s.stage k).reported = some .closed) (old u : Nat) (w : WindowIx) :
    Keeps s (s.unbalanceTripStep k old u w) := by
  unfold State.unbalanceTripStep
  dsimp only
  split
  · set s1 := s.modStage k fun a => { a with lockoutPending := true } with hs1
    have own : s1.stage k = { s.stage k with lockoutPending := true } := by rw [hs1, State.modStage_stage]
    have turns : (s.stage k).Turns (s1.stage k) := by
      rw [own]
      exact ⟨⟨fun g => ⟨g.closing, g.opening, g.still⟩,
        fun _ g => ⟨g.absent, g.placed, g.awaits, fun _ => g.placed he hr⟩, .inr rfl⟩, fun _ _ _ => by simp [lockoutKeeps]⟩
    have but : KeepsBut k s s1 := .of_turns rfl rfl rfl rfl turns (fun j hj => State.modStage_stage_ne _ _ hj)
      (by rw [own]; exact id) (.of_reported rfl
        (State.forall_modStage (P := fun j b => b.reported = (s.stage j).reported) rfl fun _ _ => rfl))
    have after := (notice_steady (s1.submitTrip k).1 (.unbalanceTrip k u w (s1.submitTrip k).2)).trans
      (trigger_steady _ .unbalanceTrip (some k) (some w))
    refine but.covered ((submitTrip_keeps s1 k).trans after.keeps) fun hs hb => after.covered ?_
    have absent := (hb.stage k).absent
    refine submitTrip_covers (but.switching hs) hm ?_ ?_
    · rw [own]; intro e; rw [absent.1 e] at he; cases he
    · rw [own]; show (s.stage k).reported ≠ _; rw [hr]; simp
  · split
    · exact submitTrip_keeps s k
    · exact .refl s

theorem unbalanceCompute_keeps {s : State} {k : StageIx} (hm : s.mode ≠ .config) (he : (s.stage k).cfg.enabled = true)
    (hr : (s.stage k).reported = some .closed) (w : WindowIx) (x : Int × Int) : Keeps s (s.unbalanceCompute k w x) := by
  unfold State.unbalanceCompute
  dsimp only
  refine Keeps.trans ?_ (finishCapture_steady _ k w).keeps
  have before {s' : State} (h : Steady s s') (old u : Nat) : Keeps s (s'.unbalanceTripStep k old u w) :=
    h.keeps.trans (unbalanceTripStep_keeps (h.mode ▸ hm) ((h.calm k).enabled.trans he) ((h.calm k).reported.trans hr) old u w)
  exact before ((modStage_steady ⟨rfl, rfl, rfl, rfl, rfl, rfl, .inl rfl⟩).trans (unbalanceAlarmStep_steady _ k _ _ w)) _ _

theorem unbalanceEvaluate_keeps {s : State} (hm : s.mode ≠ .config) (k : StageIx) (w : WindowIx) :
    Keeps s (s.unbalanceEvaluate k w) := by
  unfold State.unbalanceEvaluate
  dsimp only
  split
  · exact .refl s
  · next h =>
    simp only [Bool.or_eq_true, Bool.not_eq_true', bne_iff_ne, ne_eq, not_or, Bool.not_eq_false, not_not] at h
    split
    · split
      · exact modStage_calm ⟨rfl, rfl, rfl, rfl, rfl, rfl, .inl rfl⟩
      · exact unbalanceCompute_keeps hm h.1 h.2 w _
    · exact .refl s

/-! ### Harmonic supervision (chapter 8) -/

theorem modQuantity_keeps (s : State) (p : Phase) (q : Option Nat) (f : QuantityState → QuantityState) :
    Keeps s (s.modQuantity p q f) := .of_quiet rfl

theorem raisePhaseAlarm_keeps (s : State) (p : Phase) (q : Option Nat) (v : Nat) (w : WindowIx) :
    Keeps s (s.raisePhaseAlarm p q v w) := by
  unfold State.raisePhaseAlarm
  dsimp only
  split
  · exact modQuantity_keeps ..
  · exact ((modQuantity_keeps ..).trans (notice_keeps _ _)).trans (trigger_keeps _ _ _ _)

theorem clearPhaseAlarm_keeps (s : State) (p : Phase) (q : Option Nat) (v : Nat) (w : WindowIx) :
    Keeps s (s.clearPhaseAlarm p q v w) := by
  unfold State.clearPhaseAlarm
  dsimp only
  split
  · exact modQuantity_keeps ..
  · exact (modQuantity_keeps ..).trans (notice_keeps _ _)

theorem recoverStep_keeps (s : State) (p : Phase) (q : Option Nat) (v : Nat) (w : WindowIx) :
    Keeps s (s.recoverStep p q v w) := by
  unfold State.recoverStep
  dsimp only
  split
  · exact .refl s
  · split
    · split
      · exact clearPhaseAlarm_keeps s p q v w
      · exact modQuantity_keeps ..
    · exact modQuantity_keeps ..

theorem judgeQuantity_keeps (s : State) (p : Phase) (w : WindowIx) (q : Option Nat) (v : Nat) :
    Keeps s (s.judgeQuantity p w q v) := by
  unfold State.judgeQuantity
  dsimp only
  refine Keeps.trans ?_ (recoverStep_keeps _ _ _ _ _)
  split
  · exact (modQuantity_keeps ..).trans (raisePhaseAlarm_keeps _ _ _ _ _)
  · exact modQuantity_keeps ..

theorem judgeOrders_keeps (p : Phase) (w : WindowIx) (vs : List Nat) :
    ∀ (i : Nat) (s : State), Keeps s (State.judgeOrders p w i vs s) := by
  induction vs with
  | nil => exact fun _ s => .refl s
  | cons v vs ih => exact fun i s => (judgeQuantity_keeps s p w (some i) v).trans (ih _ _)

theorem clearBar_steady (s : State) (k : StageIx) (w : Option WindowIx) : Steady s (s.clearBar k w) := by
  unfold State.clearBar
  split
  · exact modStage_notice_steady ⟨rfl, rfl, rfl, rfl, rfl, rfl, .inl rfl⟩ _
  · exact .refl s

theorem barStep_keeps (w : WindowIx) (k : StageIx) (s : State) : Keeps s (State.barStep w k s) := by
  unfold State.barStep
  split
  · exact .refl s
  · split
    · exact modStage_calm ⟨rfl, rfl, rfl, rfl, rfl, rfl, .inl rfl⟩
    · split
      · exact (clearBar_steady s k _).keeps
      · exact modStage_calm ⟨rfl, rfl, rfl, rfl, rfl, rfl, .inl rfl⟩

theorem forStages_keeps {f : StageIx → State → State} (h : ∀ k s, Keeps s (f k s)) (s : State) : Keeps s (s.forStages f) :=
  foldl_keeps (fun s k => h k s) allStages s

theorem busHarmonicEvaluate_keeps (s : State) (p : Phase) (w : WindowIx) : Keeps s (s.busHarmonicEvaluate p w) := by
  have bars {u : State} (h : Keeps s u) : Keeps s (if p = .A then u.forStages (State.barStep w) else u) := by
    split
    · exact h.trans (forStages_keeps (barStep_keeps w) u)
    · exact h
  unfold State.busHarmonicEvaluate
  generalize s.judged (.busV p) w = j
  match j with
  | none => exact .refl s
  | some (vs, none) => exact bars (judgeOrders_keeps p w vs 0 s)
  | some (vs, some t) => exact bars ((judgeOrders_keeps p w vs 0 s).trans (judgeQuantity_keeps _ p w none t))

theorem clearOverload_steady (s : State) (k : StageIx) (c : ClearCause) : Steady s (s.clearOverload k c) := by
  unfold State.clearOverload
  split
  · exact modStage_notice_steady ⟨rfl, rfl, rfl, rfl, rfl, rfl, .inl rfl⟩ _
  · exact .refl s

theorem overloadReached_keeps (s : State) (k : StageIx) (t : Nat) (w : WindowIx) : Keeps s (s.overloadReached k t w) := by
  have h := ((modStage_calm (s := s) (k := k) (f := fun a => { a with overload := true }) ⟨rfl, rfl, rfl, rfl, rfl, rfl, .inl rfl⟩).trans
    (gather_keeps _ k (submits_normal .open .harmonicRemoval))).trans
    (modStage_calm (k := k) (f := fun a => { a with bar := true, barCount := 0 }) ⟨rfl, rfl, rfl, rfl, rfl, rfl, .inl rfl⟩)
  unfold State.overloadReached
  dsimp only
  split
  · exact h
  · exact h.trans (notice_keeps _ _)

theorem stageHarmonicEvaluate_keeps (s : State) (k : StageIx) (w : WindowIx) : Keeps s (s.stageHarmonicEvaluate k w) := by
  unfold State.stageHarmonicEvaluate
  dsimp only
  split
  · exact .refl s
  · split
    · unfold State.overloadStep
      dsimp only
      split
      · exact (modStage_calm ⟨rfl, rfl, rfl, rfl, rfl, rfl, .inl rfl⟩).trans (overloadReached_keeps _ _ _ _)
      · split
        · exact (modStage_calm ⟨rfl, rfl, rfl, rfl, rfl, rfl, .inl rfl⟩).trans (clearOverload_steady _ _ _).keeps
        · exact modStage_calm ⟨rfl, rfl, rfl, rfl, rfl, rfl, .inl rfl⟩
    · exact .refl s

theorem harmonicLeftClosed_steady (s : State) (k : StageIx) : Steady s (s.harmonicLeftClosed k) :=
  (modStage_steady ⟨rfl, rfl, rfl, rfl, rfl, rfl, .inl rfl⟩).trans (clearOverload_steady _ _ _)

theorem overloadSettings_steady (s : State) (k : StageIx) : Steady s (s.overloadSettings k) :=
  (modStage_steady ⟨rfl, rfl, rfl, rfl, rfl, rfl, .inl rfl⟩).trans (clearOverload_steady _ _ _)

theorem leftClosed_steady (s : State) (k : StageIx) : Steady s (s.leftClosed k) :=
  (unbalanceLeftClosed_steady s k).trans (harmonicLeftClosed_steady _ k)

/-! ### Voltage control (chapter 6) -/

theorem modVc_keeps (s : State) (f : VoltageState → VoltageState) : Keeps s (s.modVc f) := .of_quiet rfl

theorem deadLineOpening_keeps (s : State) (vc : Nat) (w : WindowIx) : Keeps s (s.deadLineOpening vc w) := by
  have h : Keeps s (s.submitDeadLine s.deadLineStages) :=
    foldl_keeps (fun s k => gather_keeps s k (submits_protect (by decide))) _ s
  unfold State.deadLineOpening
  dsimp only
  split
  · exact h
  · exact ((h.trans (modVc_keeps _ _)).trans (notice_keeps _ _)).trans (trigger_keeps _ _ _ _)

theorem restoreStep_keeps (s : State) (c : ControlSet) (full : Bool) (vc : Nat) (w : WindowIx) :
    Keeps s (s.restoreStep c full vc w) := by
  unfold State.restoreStep
  split
  · exact .refl s
  · split
    · exact modVc_keeps ..
    · split
      · exact .refl s
      · split
        · exact (modVc_keeps ..).trans (notice_keeps _ _)
        · exact modVc_keeps ..

theorem deadLineStep_keeps (s : State) (c : ControlSet) (full : Bool) (vc : Nat) (w : WindowIx) :
    Keeps s (s.deadLineStep c full vc w) := by
  unfold State.deadLineStep
  dsimp only
  refine Keeps.trans ?_ (restoreStep_keeps _ _ _ _ _)
  split
  · exact (modVc_keeps ..).trans (deadLineOpening_keeps _ _ _)
  · exact modVc_keeps ..

theorem tryFastRemoval_keeps (s : State) : Keeps s s.tryFastRemoval.1 := by
  unfold State.tryFastRemoval
  split
  · exact .refl s
  · split
    · exact .refl s
    · next k _ =>
      have h := gather_keeps s k (submits_normal .open .fastRemoval)
      split
      · next s' e => rw [e] at h; dsimp only at h ⊢; exact h.trans (modVc_keeps s' _)
      · next e => rw [e] at h; exact h

theorem submitStep_keeps (s : State) (c : ControlSet) (k : StageIx) (op : Operation) (m : Withheld) :
    Keeps s (s.submitStep c k op m) := by
  have h := gather_keeps s k (submits_normal op .voltage)
  unfold State.submitStep
  split
  · next e => rw [e] at h; exact h.trans (modVc_keeps ..)
  · next e => rw [e] at h; exact h.trans (modVc_keeps ..)

theorem removalStep_keeps (s : State) (c : ControlSet) (vc : Nat) : Keeps s (s.removalStep c vc) := by
  unfold State.removalStep
  split
  · split
    · exact submitStep_keeps ..
    · exact modVc_keeps ..
  · exact modVc_keeps ..

theorem insertionStep_keeps (s : State) (c : ControlSet) (vc : Nat) : Keeps s (s.insertionStep c vc) := by
  unfold State.insertionStep
  split
  · split
    · exact submitStep_keeps ..
    · exact modVc_keeps ..
  · exact modVc_keeps ..

theorem bandStep_keeps (s : State) (c : ControlSet) (vc : Nat) : Keeps s (s.bandStep c vc) := by
  unfold State.bandStep
  split
  · exact modVc_keeps ..
  · refine (modVc_keeps s (integrate c vc)).trans ?_
    unfold State.stepDecision
    dsimp only
    split
    · split
      · exact modVc_keeps ..
      · exact removalStep_keeps ..
    · split
      · split
        · exact modVc_keeps ..
        · exact insertionStep_keeps ..
      · exact .refl _

theorem voltageMissing_keeps (s : State) (w : WindowIx) : Keeps s (s.voltageMissing w) := by
  unfold State.voltageMissing
  dsimp only
  split
  · exact ((modVc_keeps ..).trans (modVc_keeps ..)).trans (notice_keeps _ _)
  · exact modVc_keeps ..

theorem voltageResume_keeps (s : State) (w : WindowIx) : Keeps s (s.voltageResume w) := by
  unfold State.voltageResume
  split
  · exact (modVc_keeps ..).trans (notice_keeps _ _)
  · exact .refl s

theorem voltageSteps_keeps (s : State) (full : Bool) (vc : Nat) (w : WindowIx) : Keeps s (s.voltageSteps full vc w) := by
  have h := ((deadLineStep_keeps s s.forceSet full vc w).trans (modVc_keeps _ (overvoltage s.forceSet vc))).trans
    (tryFastRemoval_keeps _)
  unfold State.voltageSteps
  dsimp only
  split
  · exact h
  · exact h.trans (bandStep_keeps ..)

theorem voltageEvaluate_keeps (s : State) (w : WindowIx) : Keeps s (s.voltageEvaluate w) := by
  unfold State.voltageEvaluate
  dsimp only
  split
  · exact voltageMissing_keeps s w
  · exact ((modVc_keeps ..).trans (voltageResume_keeps _ w)).trans (voltageSteps_keeps ..)

/-! ### Evaluation and handover (chapter 3) -/

theorem modEval_keeps (s : State) (e : Element) (f : EvalState → EvalState) : Keeps s (s.modEval e f) := .of_quiet rfl

theorem modRole_keeps (s : State) (r : Role) (f : RoleState → RoleState) : Keeps s (s.modRole r f) := .of_quiet rfl

theorem evaluate_keeps {s : State} (hm : s.mode ≠ .config) (e : Element) (w : WindowIx) : Keeps s (s.evaluate e w) := by
  cases e with
  | voltage => exact voltageEvaluate_keeps s w
  | unbalance k => exact unbalanceEvaluate_keeps hm k w
  | busHarmonic p => exact busHarmonicEvaluate_keeps s p w
  | stageHarmonic k => exact stageHarmonicEvaluate_keeps s k w

theorem evaluateFrom_keeps (n : Nat) (e : Element) : ∀ {s : State}, s.mode ≠ .config → Keeps s (State.evaluateFrom n e s) := by
  induction n with
  | zero => exact fun {s} _ => .refl s
  | succ n ih =>
    intro s hm
    rw [State.evaluateFrom]
    split
    · exact .refl s
    · next w _ =>
      split
      · refine ((evaluate_keeps hm e w).trans (modEval_keeps _ e _)).trans (ih ?_)
        show (s.evaluate e w).mode ≠ _
        rw [evaluate_evaluated s e w]; exact hm
      · exact .refl s

theorem State.running_iff (s : State) : s.running = true ↔ s.mode ≠ .config := by simp [State.running]

theorem elementSees_keeps (w : WindowIx) (s : State) (e : Element) : Keeps s (State.elementSees w s e) := by
  unfold State.elementSees
  split
  · next h => exact (modEval_keeps s e _).trans (evaluateFrom_keeps _ e ((State.running_iff s).1 h))
  · exact .refl s

theorem compute_keeps (s : State) (r : Role) (c : ClosedWindow) : Keeps s (s.compute r c) := by
  unfold State.compute
  dsimp only
  split <;> exact .of_quiet rfl

theorem handOver_keeps (s : State) (r : Role) (c : ClosedWindow) : Keeps s (s.handOver r c) :=
  (((modRole_keeps s r _).trans (compute_keeps _ r c)).trans (captureTake_keeps _ r c)).trans
    (foldl_keeps (elementSees_keeps c.w) _ _)

theorem evaluationTimeout_keeps (s : State) (e : Element) : Keeps s (s.evaluationTimeout e) := by
  unfold State.evaluationTimeout
  split
  · exact .refl s
  · split
    · exact modEval_keeps ..
    · exact .refl s

end Sys2Proof.Machine
end

section
/-! The stage table keeps the standing facts: POSITION reports, the timers, WRITE STAGE, BLOCK and RELEASE. -/

namespace Sys2Proof.Machine

/-! ### What switching leaves of a stage record -/

/-- A fact that removals and sendings keep holds behind every selection. -/
theorem normalEntry_frame {P : State → Prop} (drop : ∀ s e, P s → P (s.dropEntry e .notReady)) :
    ∀ (l : List QueueEntry) {s : State}, P s → P (s.normalEntry l).1
  | [], _, h => h
  | e :: es, s, h => by
    unfold State.normalEntry
    split
    · exact normalEntry_frame drop es h
    · split
      · exact h
      · split
        · exact normalEntry_frame drop es (drop s e h)
        · split
          · exact h
          · exact normalEntry_frame drop es h

theorem select_frame {P : State → Prop} (drop : ∀ s e, P s → P (s.dropEntry e .notReady)) (send : ∀ s e, P s → P (s.sendEntry e))
    (n : Nat) : ∀ {s : State}, P s → P (State.select n s) := by
  induction n with
  | zero => exact id
  | succ n ih =>
    intro s h
    rcases select_cases n s with e | ⟨-, -, ⟨e, -, e'⟩ | ⟨-, e, -, e'⟩ | ⟨-, -, e'⟩⟩
    · rw [e]; exact h
    · rw [e']; exact ih (send s e h)
    · rw [e']; exact ih (send _ e (normalEntry_frame drop _ h))
    · rw [e']; exact normalEntry_frame drop _ h

/-- A fact that no change of the queue touches, and that removals and sendings keep, holds behind every gathering. -/
theorem gather_frame {P : State → Prop} (queue : ∀ (s : State) q, P s → P { s with queue := q })
    (drop : ∀ s e r, P s → P (s.dropEntry e r)) (send : ∀ s e, P s → P (s.sendEntry e)) {s : State} (h : P s)
    (k : StageIx) (op : Operation) (c : CmdClass) (o : Origin) : P (s.gather k op c o).1 := by
  have selects {u : State} (g : P u) : P u.selection := select_frame (fun s e => drop s e _) send _ g
  have fresh {u : State} (g : P u) : P (u.gatherFresh k op c o).1 := by
    unfold State.gatherFresh
    split
    · exact g
    · split
      · exact g
      · split
        · exact g
        · exact selects (queue u _ g)
  unfold State.gather
  split
  · exact h
  · split
    · exact fresh h
    · split
      · split
        · exact h
        · dsimp only
          split
          · exact queue s _ h
          · exact selects (queue s _ h)
      · split
        · exact h
        · exact fresh (drop s _ _ h)

/-- Sending leaves of a record what the supervisor does not own. -/
theorem sendEntry_reported (s : State) (e : QueueEntry) (k : StageIx) :
    ((s.sendEntry e).stage k).reported = (s.stage k).reported := by
  by_cases hk : k = e.stage
  · subst hk; rw [sendEntry_stage]; rfl
  · rw [sendEntry_stage_ne s e hk]

theorem gather_reported (s : State) (k : StageIx) (op : Operation) (c : CmdClass) (o : Origin) (j : StageIx) :
    ((s.gather k op c o).1.stage j).reported = (s.stage j).reported :=
  gather_frame (P := fun t => (t.stage j).reported = (s.stage j).reported) (fun _ _ h => h)
    (fun t e r h => by rw [dropEntry_stage]; exact h) (fun t e h => (sendEntry_reported t e j).trans h) rfl k op c o

/-! ### A record with its place in the in-service list -/

/-- The record of one stage with the in-service list. -/
def State.withRecord (s : State) (k : StageIx) (b : Stage) (l : List StageIx) : State :=
  { s with stages := s.stages.set k b, inService := l }

@[simp] theorem State.withRecord_stage (s : State) (k : StageIx) (b : Stage) (l : List StageIx) :
    (s.withRecord k b l).stage k = b := by simp [State.withRecord, State.stage]

theorem State.withRecord_stage_ne (s : State) {k j : StageIx} (b : Stage) (l : List StageIx) (h : j ≠ k) :
    (s.withRecord k b l).stage j = s.stage j :=
  State.modStage_stage_ne s (fun _ => b) h

theorem State.withRecord_modStage (s : State) (k : StageIx) (b : Stage) (l : List StageIx) (f : Stage → Stage) :
    (s.withRecord k b l).modStage k f = s.withRecord k (f b) l := by
  simp [State.withRecord, State.modStage]

/-- The list and the reported position move together (R68). -/
theorem InServiceSafe.of_report {s t : State} {k : StageIx} {pos : Position}
    (hi : t.inService = inServiceAfter s.inService k (s.stage k).reported pos) (hk : (t.stage k).reported = some pos)
    (hne : ∀ j, j ≠ k → t.stage j = s.stage j) (h : InServiceSafe s) : InServiceSafe t := by
  have own := h.exact k
  constructor
  · rw [hi, inServiceAfter]
    split
    · split
      · exact h.nodup
      · next hn => exact List.nodup_append.2 ⟨h.nodup, by simp, fun a ha b hb e => hn (own.1 (by simp_all))⟩
    · split
      · exact h.nodup.erase k
      · exact h.nodup
  · intro j
    by_cases e : j = k
    · subst e
      rw [hk, hi, inServiceAfter]
      split
      · next hp => split <;> simp_all
      · next hp => split <;> simp_all [h.nodup.mem_erase_iff]
    · have other := h.exact j
      rw [hne j e, hi, inServiceAfter]
      split
      · split <;> simp_all
      · split <;> simp_all [h.nodup.mem_erase_iff]

/-- A report that makes of the record what one operation may make of it. -/
theorem withRecord_keeps {s : State} {k : StageIx} {b : Stage} {pos : Position} (hb : (s.stage k).Becomes b)
    (hr : b.reported = some pos) (known : b.state = .absent → (s.stage k).state = .absent) :
    Keeps s (s.withRecord k b (inServiceAfter s.inService k (s.stage k).reported pos)) := by
  refine .of_becomes rfl rfl rfl rfl (State.forall_modStage (f := fun _ => b) (P := fun j b => (s.stage j).Becomes b) hb
    fun j _ => (Stage.Calm.refl _).becomes) (fun e _ => ?_)
    (.of_report rfl (by rw [State.withRecord_stage]; exact hr) fun j hj => State.withRecord_stage_ne s _ _ hj)
  by_cases hk : e.stage = k
  · subst hk; rw [State.withRecord_stage]; exact fun hs ha => hs (known ha)
  · rw [State.withRecord_stage_ne s _ _ hk]; exact id

/-! ### Reports (R67 to R73) -/

/-- A change of a record that leaves all but its reported position calm, where the position fits its state. -/
theorem Stage.Calm.reported_becomes {a b : Stage} (h : a.Calm { b with reported := a.reported })
    (placed : a.Flies → a.Trips → b.cfg.enabled = true → b.reported = some .closed →
      b.state = .closed ∨ b.state = .failed ∨ b.state = .closing ∨ b.state = .opening) : a.Becomes b where
  flies g := ⟨(h.flies g).closing, (h.flies g).opening, (h.flies g).still⟩
  trips f g := ⟨(h.trips g).absent, placed f g, (h.trips g).awaits, (h.trips g).pending⟩
  flights := .inr h.flight
  stands f g := h.becomes.stands f g
  locks f g := h.becomes.locks f g

/-- The record of an accepted report before the supervisor or the stage table acts on it. -/
def seenReport (s : State) (pos : Position) (a : Stage) : Stage :=
  seenStage s.link a.stable pos s.now (reportStage pos s.now a)

theorem seenReport_state (s : State) (pos : Position) (a : Stage) : (seenReport s pos a).state = a.state := rfl
theorem seenReport_cfg (s : State) (pos : Position) (a : Stage) : (seenReport s pos a).cfg = a.cfg := rfl
theorem seenReport_reported (s : State) (pos : Position) (a : Stage) : (seenReport s pos a).reported = some pos := rfl
theorem seenReport_awaiting (s : State) (pos : Position) (a : Stage) : (seenReport s pos a).awaiting = a.awaiting := rfl
theorem seenReport_pending (s : State) (pos : Position) (a : Stage) :
    (seenReport s pos a).lockoutPending = a.lockoutPending := rfl
theorem seenReport_inFlight (s : State) (pos : Position) (a : Stage) : (seenReport s pos a).inFlight = a.inFlight := rfl

theorem disabledReport_becomes {a : Stage} (pos : Position) (now : PartTime) (he : a.cfg.enabled = false) :
    a.Becomes (reportStage pos now a) :=
  Stage.Calm.reported_becomes ⟨rfl, rfl, rfl, rfl, rfl, rfl, .inl rfl⟩ fun _ _ e => by
    rw [show (reportStage pos now a).cfg = a.cfg from rfl, he] at e; cases e

/-- A report that neither completes nor fails the operation in flight. -/
theorem seenReport_becomes {s : State} {a : Stage} {f : InFlight} (pos : Position) (hf : a.inFlight = some f) :
    a.Becomes (seenReport s pos a) := by
  refine Stage.Calm.reported_becomes ⟨rfl, rfl, rfl, rfl, rfl, rfl, ?_⟩ fun fl _ _ _ => ?_
  · show movingAfter s.link pos s.now (reportStage pos s.now a) = a.moving
      ∨ movingAfter s.link pos s.now (reportStage pos s.now a) = none
    unfold movingAfter
    split
    · rw [if_neg (by rintro ⟨-, e, -⟩; rw [show (reportStage pos s.now a).inFlight = a.inFlight from rfl, hf] at e; cases e)]
      exact .inl rfl
    · exact .inr rfl
  · rw [seenReport_state, fl.flying hf]
    split <;> simp

theorem completed_becomes {s : State} {a : Stage} {f : InFlight} {pos : Position} (he : a.cfg.enabled = true)
    (hf : a.inFlight = some f) (hp : positionOp pos = some f.op) : a.Becomes (completeStage f.op (seenReport s pos a)) := by
  have calm (fl : a.Flies) (tr : a.Trips) : a.awaiting = false := by
    by_contra hw
    have := tr.awaits (by simpa using hw)
    rw [fl.flying hf] at this
    split at this <;> cases this
  cases hop : f.op using Operation.named with
  | close =>
    have hpos : pos = .closed := by cases pos <;> simp_all [positionOp]
    have hst (fl : a.Flies) : a.state = .closing := by rw [fl.flying hf, if_pos hop]
    refine ⟨⟨⟨fun _ => .of_grounded rfl (by simp [completeStage]) (by simp [completeStage]), fun fl tr => ?_, .inl rfl⟩,
      fun fl _ hl => ?_⟩, fun fl _ hl => .inr ⟨hl, by rw [hst fl]; simp, fun g hg ho => ?_⟩⟩
    · refine ⟨by simp [completeStage, seenReport_cfg, he], fun _ _ => .inl rfl, fun e => ?_, fun _ => .inl rfl⟩
      have : a.awaiting = true := e
      rw [calm fl tr] at this; cases this
    · simpa [lockoutKeeps, hst fl, completeStage, seenReport_pending] using hl
    · rw [hf] at hg; cases hg; rw [hop] at ho; cases ho
  | opens =>
    have hpos : pos = .open := by cases pos <;> simp_all [positionOp]
    have hst (fl : a.Flies) : a.state = .opening := by rw [fl.flying hf, if_neg (by simp [hop])]
    refine ⟨⟨⟨fun _ => .of_grounded rfl ?_ ?_, fun fl tr => ?_, .inl rfl⟩, fun fl _ hl => ?_⟩, fun _ _ hl => by cases hl⟩
    · show (if (seenReport s pos a).lockoutPending then StageState.lockedOut else .openCooling) ≠ _; split <;> simp
    · show (if (seenReport s pos a).lockoutPending then StageState.lockedOut else .openCooling) ≠ _; split <;> simp
    · refine ⟨⟨fun e => ?_, fun e => ?_⟩, fun _ e => ?_, fun e => ?_, nofun⟩
      · have : (if (seenReport s pos a).lockoutPending then StageState.lockedOut else .openCooling) = .absent := e
        split at this <;> cases this
      · have : a.cfg.enabled = false := e
        rw [he] at this; cases this
      · have : some pos = some Position.closed := e
        rw [hpos] at this; cases this
      · have : a.awaiting = true := e
        rw [calm fl tr] at this; cases this
    · have pend : a.lockoutPending = true := by simpa [lockoutKeeps, hst fl] using hl
      simp [lockoutKeeps, completeStage, seenReport_pending, pend]

theorem failed_becomes {s : State} {a : Stage} {f : InFlight} (pos : Position) (he : a.cfg.enabled = true)
    (hf : a.inFlight = some f) : a.Becomes (failStage (seenReport s pos a)) := by
  refine ⟨⟨⟨fun _ => .of_grounded rfl (by simp [failStage]) (by simp [failStage]), fun fl tr => ?_, .inl rfl⟩,
    fun fl _ hl => ?_⟩, fun _ _ _ => .inl rfl⟩
  · refine ⟨by simp [failStage, seenReport_cfg, he], fun _ _ => .inr (.inl rfl), fun e => ?_, fun _ => .inr (.inl rfl)⟩
    have := tr.awaits e
    rw [fl.flying hf] at this
    split at this <;> cases this
  · have : a.state ≠ .lockedOut := by rw [fl.flying hf]; split <;> simp
    simpa [lockoutKeeps, failStage, seenReport_pending, this] using hl

end Sys2Proof.Machine
end

section
/-! A POSITION report for a stage with nothing in flight, and the POSITION frame. -/

namespace Sys2Proof.Machine

/-- The record of an enabled stage with nothing in flight, as a report of `pos` finds it after the first step of R67. -/
structure Stage.Idles (x : Stage) (pos : Position) : Prop where
  grounded : x.inFlight = none
  enabled : x.cfg.enabled = true
  reported : x.reported = some pos
  known : x.state ≠ .absent
  closing : x.state ≠ .closing
  opening : x.state ≠ .opening
  awaits : x.awaiting = true → x.state = .openCooling
  pending : x.lockoutPending = true → x.state = .closed ∨ x.state = .failed

theorem seenReport_idles {s : State} {a : Stage} (pos : Position) (he : a.cfg.enabled = true) (hf : a.inFlight = none)
    (fl : a.Flies) (tr : a.Trips) : (seenReport s pos a).Idles pos := by
  obtain ⟨hc, ho⟩ := fl.settled hf
  refine ⟨hf, he, rfl, fun e => ?_, hc, ho, tr.awaits, fun e => ?_⟩
  · have := tr.absent.1 e; rw [he] at this; cases this
  · rcases tr.pending e with h | h | h | h
    · exact .inl h
    · exact .inr h
    · exact absurd h hc
    · exact absurd h ho

/-- What the reaction leaves of the record. -/
theorem reactStage_kept (m : Mode) (was : Option Position) (pos : Position) (x : Stage) :
    (reactStage m was pos x).inFlight = x.inFlight ∧ (reactStage m was pos x).cfg = x.cfg
      ∧ (reactStage m was pos x).reported = x.reported := by
  cases pos using Position.named with
  | opens => simp only [reactStage, openReport]; split <;> [skip; split] <;> exact ⟨rfl, rfl, rfl⟩
  | closed => simp only [reactStage, closedReport]; split <;> [skip; split] <;> exact ⟨rfl, rfl, rfl⟩
  | moving => exact ⟨rfl, rfl, rfl⟩
  | unknown => simp only [reactStage, unknownReport, lostStage]; split <;> exact ⟨rfl, rfl, rfl⟩

/-- The reaction puts no stage in CLOSING or OPENING. -/
theorem reactStage_state (m : Mode) (was : Option Position) (pos : Position) (x : Stage) :
    (reactStage m was pos x).state = x.state
      ∨ (reactStage m was pos x).state ≠ .closing ∧ (reactStage m was pos x).state ≠ .opening := by
  cases pos using Position.named with
  | opens =>
    simp only [reactStage, openReport]
    split
    · exact .inr ⟨nofun, nofun⟩
    · split
      · right; dsimp only; split <;> simp
      · exact .inl rfl
  | closed =>
    simp only [reactStage, closedReport]
    split
    · exact .inr ⟨nofun, nofun⟩
    · split
      · exact .inr ⟨nofun, nofun⟩
      · exact .inr ⟨nofun, nofun⟩
      · right; dsimp only; split <;> simp
      · exact .inl rfl
  | moving => exact .inl rfl
  | unknown =>
    simp only [reactStage, unknownReport]
    split
    · exact .inl rfl
    · exact .inr ⟨nofun, nofun⟩

/-- State, "awaiting position" and lockout pending of a record after a report with nothing in flight. -/
structure Stage.Reacts (x b : Stage) (m : Mode) (pos : Position) : Prop where
  known : b.state ≠ .absent
  closing : b.state ≠ .closing
  opening : b.state ≠ .opening
  placed : pos = .closed → b.state = .closed ∨ b.state = .failed
  awaits : b.awaiting = true → b.state = .openCooling
  pending : b.lockoutPending = true → b.state = .closed ∨ b.state = .failed
  opened : pos = .open → b.lockoutPending = true → b.state = .failed
  locks : lockoutKeeps x = true → lockoutKeeps b = true
  stands : b.lockoutPending = true → b.state = .failed ∨ (x.lockoutPending = true ∧ x.state ≠ .failed)
    ∨ (pos = .closed ∧ x.awaiting = false ∧ x.state = .lockedOut ∧ m ≠ .config)

/-- A record that keeps state, wait and lockout reacts as it should where the position fits its state. -/
theorem Stage.Idles.stays {x b : Stage} {m : Mode} {pos : Position} (h : x.Idles pos) (hs : b.state = x.state)
    (hw : b.awaiting = x.awaiting) (hp : b.lockoutPending = x.lockoutPending)
    (placed : pos = .closed → x.state = .closed ∨ x.state = .failed) (opened : pos = .open → x.state ≠ .closed) :
    x.Reacts b m pos where
  known := hs ▸ h.known
  closing := hs ▸ h.closing
  opening := hs ▸ h.opening
  placed := hs ▸ placed
  awaits := by rw [hw, hs]; exact h.awaits
  pending := by rw [hp, hs]; exact h.pending
  opened e := by rw [hp, hs]; exact fun g => (h.pending g).resolve_left (opened e)
  locks := by simp only [lockoutKeeps, hs, hp]; exact id
  stands := by
    rw [hp, hs]
    intro e
    by_cases hf : x.state = .failed
    · exact .inl hf
    · exact .inr (.inl ⟨e, hf⟩)

/-- A record in OPEN_COOLING has no lockout to lose. -/
theorem Stage.Idles.free {x : Stage} {pos : Position} (h : x.Idles pos) (hc : x.state ≠ .closed) (hf : x.state ≠ .failed) :
    x.lockoutPending = false := by
  by_contra e
  rcases h.pending (by simpa using e) with g | g
  · exact hc g
  · exact hf g

theorem openReport_reacts {x : Stage} (was : Option Position) (m : Mode) (h : x.Idles .open) :
    x.Reacts (openReport was x) m .open := by
  unfold openReport
  split
  · next hw =>
    have hst := h.awaits hw
    have free := h.free (by rw [hst]; simp) (by rw [hst]; simp)
    have never {p : Prop} (e : x.lockoutPending = true) : p := absurd (free.symm.trans e) Bool.false_ne_true
    exact ⟨nofun, nofun, nofun, nofun, nofun, never, fun _ => never, (by simp [lockoutKeeps, hst, free]), never⟩
  · dsimp only
    split
    · next hw hst =>
      refine ⟨?_, ?_, ?_, nofun, fun e => absurd e hw, nofun, nofun, fun e => ?_, nofun⟩
      · dsimp only; split <;> simp
      · dsimp only; split <;> simp
      · dsimp only; split <;> simp
      · have : x.lockoutPending = true := by simpa [lockoutKeeps, hst] using e
        simp [lockoutKeeps, this]
    · next hst => exact h.stays rfl rfl rfl nofun fun _ => hst

theorem closedReport_reacts {x : Stage} (m : Mode) (h : x.Idles .closed) : x.Reacts (closedReport m x) m .closed := by
  have moves {b : Stage} (hst : x.state = .openReady ∨ x.state = .openCooling) (hb : b.state = .closed)
      (hw : b.awaiting = false) (hp : b.lockoutPending = x.lockoutPending) : x.Reacts b m .closed := by
    have free := h.free (by rcases hst with e | e <;> rw [e] <;> simp) (by rcases hst with e | e <;> rw [e] <;> simp)
    exact ⟨(by simp [hb]), (by simp [hb]), (by simp [hb]), fun _ => .inl hb, (by simp [hw]), fun _ => .inl hb, nofun,
      (by rcases hst with g | g <;> simp [lockoutKeeps, g, free]), (by simp [hp, free])⟩
  unfold closedReport
  split
  · next hw => exact moves (.inr (h.awaits hw)) rfl rfl rfl
  · next hw =>
    have hw : x.awaiting = false := by simpa using hw
    split
    · next hst => exact moves (.inl hst) rfl hw rfl
    · next hst => exact moves (.inr hst) rfl hw rfl
    · next hst =>
      have placed : (if m = .config then StageState.failed else .closed) = .closed
          ∨ (if m = .config then StageState.failed else .closed) = .failed := by split <;> simp
      refine ⟨?_, ?_, ?_, fun _ => placed, (by simp [hw]), fun _ => placed, nofun,
        (by simp [lockoutKeeps]), fun _ => ?_⟩
      · dsimp only; split <;> simp
      · dsimp only; split <;> simp
      · dsimp only; split <;> simp
      · by_cases hm : m = .config
        · exact .inl (if_pos hm)
        · exact .inr (.inr ⟨rfl, hw, hst, hm⟩)
    · next h1 h2 h3 =>
      refine h.stays rfl rfl rfl (fun _ => ?_) nofun
      cases hst : x.state with
      | closed => exact .inl rfl
      | failed => exact .inr rfl
      | absent => exact absurd hst h.known
      | closing => exact absurd hst h.closing
      | opening => exact absurd hst h.opening
      | openReady => exact absurd hst h1
      | openCooling => exact absurd hst h2
      | lockedOut => exact absurd hst h3

theorem unknownReport_reacts {x : Stage} (m : Mode) (h : x.Idles .unknown) : x.Reacts (unknownReport x) m .unknown := by
  unfold unknownReport
  split
  · exact h.stays rfl rfl rfl nofun nofun
  · exact ⟨nofun, nofun, nofun, nofun, nofun, fun _ => .inr rfl, nofun,
      (by simp [lockoutKeeps, lostStage]), fun _ => .inl rfl⟩

theorem reactStage_reacts {x : Stage} {pos : Position} (m : Mode) (was : Option Position) (h : x.Idles pos) :
    x.Reacts (reactStage m was pos x) m pos := by
  cases pos using Position.named with
  | opens => exact openReport_reacts was m h
  | closed => exact closedReport_reacts m h
  | moving => exact h.stays rfl rfl rfl nofun nofun
  | unknown => exact unknownReport_reacts m h

/-- The record a report leaves with nothing in flight. -/
def reactedReport (s : State) (pos : Position) (a : Stage) : Stage :=
  reactStage s.mode a.stable pos (seenReport s pos a)

theorem reactedReport_reported (s : State) (pos : Position) (a : Stage) : (reactedReport s pos a).reported = some pos :=
  (reactStage_kept s.mode a.stable pos (seenReport s pos a)).2.2

theorem reactedReport_turns {s : State} {a : Stage} (pos : Position) (he : a.cfg.enabled = true) (hf : a.inFlight = none) :
    a.Turns (reactedReport s pos a) := by
  obtain ⟨flight, cfg, rep⟩ := reactStage_kept s.mode a.stable pos (seenReport s pos a)
  have grounded : (reactedReport s pos a).inFlight = none := flight.trans hf
  have enabled : (reactedReport s pos a).cfg.enabled = true := by rw [reactedReport, cfg]; exact he
  refine ⟨⟨fun fl => ?_, fun fl tr => ?_, .inl grounded⟩, fun fl tr => ?_⟩
  · obtain ⟨hc, ho⟩ := fl.settled hf
    rcases reactStage_state s.mode a.stable pos (seenReport s pos a) with e | ⟨hc', ho'⟩
    · exact .of_grounded grounded (fun g => hc (e.symm.trans g)) fun g => ho (e.symm.trans g)
    · exact .of_grounded grounded hc' ho'
  · have r := reactStage_reacts s.mode a.stable (seenReport_idles (s := s) pos he hf fl tr)
    refine ⟨⟨fun e => absurd e r.known, fun e => by rw [enabled] at e; cases e⟩, fun _ e => ?_, r.awaits, fun e => ?_⟩
    · rw [reactedReport, rep] at e
      exact (r.placed (Option.some.inj e)).elim .inl (.inr ∘ .inl)
    · exact (r.pending e).elim .inl (.inr ∘ .inl)
  · exact (reactStage_reacts s.mode a.stable (seenReport_idles (s := s) pos he hf fl tr)).locks

end Sys2Proof.Machine
end

section
/-! A POSITION frame and the timers of a stage keep the standing facts. -/

namespace Sys2Proof.Machine

theorem reactedReport_holds {s : State} {a : Stage} {pos : Position} (he : a.cfg.enabled = true) (hf : a.inFlight = none)
    (h : ¬ (pos = .closed ∧ a.awaiting = false ∧ a.state = .lockedOut ∧ s.mode ≠ .config)) :
    a.Holds (reactedReport s pos a) := by
  intro fl tr e
  rcases (reactStage_reacts s.mode a.stable (seenReport_idles (s := s) pos he hf fl tr)).stands e with g | ⟨hp, hs⟩ | g
  · exact .inl g
  · exact .inr ⟨hp, hs, fun f hf' => by rw [hf] at hf'; cases hf'⟩
  · exact absurd g h

/-- The records of all stages after a report, before any notice. -/
def State.reported (s : State) (k : StageIx) (pos : Position) (b : Stage) : State :=
  s.withRecord k b (inServiceAfter s.inService k (s.stage k).reported pos)

theorem State.reported_stage (s : State) (k : StageIx) (pos : Position) (b : Stage) : (s.reported k pos b).stage k = b :=
  s.withRecord_stage k b _

/-- A change of the record on top of the first step of a report is one report. -/
theorem reported_changed {s : State} {k : StageIx} {pos : Position} {b : Stage} (f : Stage → Stage) :
    Keeps (s.reported k pos (f b)) ((s.reported k pos b).changeStage k f) := by
  have h := changeStage_noticed (s.reported k pos b) k f
  rwa [State.reported, State.withRecord_modStage] at h

/-- A test of the queued entry that rests on the record alone. -/
theorem testSatisfied_record {s : State} {k : StageIx} (safe : (s.stage k).Flies → (s.stage k).Trips →
    (s.stage k).lockoutPending = true → (s.stage k).state = .failed ∨ (s.stage k).reported ≠ some .open) :
    Keeps s (s.testSatisfied k) := testSatisfied_keeps fun hs hb => safe (hs.flies k) (hb.stage k)

/-- The report completes the operation in flight (R97). -/
theorem completeReport_keeps {s : State} {k : StageIx} {f : InFlight} {pos : Position} (he : (s.stage k).cfg.enabled = true)
    (hf : (s.stage k).inFlight = some f) (hp : positionOp pos = some f.op) :
    Keeps s ((s.reported k pos (reportStage pos s.now (s.stage k))).completeOperation k f
      (seenStage s.link (s.stage k).stable pos s.now)) := by
  set g : Stage → Stage := fun a => completeStage f.op (seenStage s.link (s.stage k).stable pos s.now a) with hg
  have record : Keeps s (s.reported k pos (g (reportStage pos s.now (s.stage k)))) := by
    refine withRecord_keeps (completed_becomes (s := s) he hf hp) ?_ ?_
    · rw [hg]; cases f.op <;> rfl
    · rw [hg]
      cases f.op using Operation.named with
      | close => exact nofun
      | opens => intro e; simp only [completeStage] at e; split at e <;> cases e
  refine ((record.trans (reported_changed g)).trans (testSatisfied_record fun _ _ => ?_)).trans (selection_keeps _)
  rw [changeStage_stage, State.reported_stage, hg]
  cases hop : f.op using Operation.named with
  | close =>
    intro _
    cases pos using Position.named with
    | closed => exact .inr (by simp [completeStage, seenStage, reportStage])
    | opens | moving | unknown => simp [positionOp, hop] at hp
  | opens => exact nofun

/-- The report fails the operation in flight (R99). -/
theorem failReport_keeps {s : State} {k : StageIx} {f : InFlight} (pos : Position) (he : (s.stage k).cfg.enabled = true)
    (hf : (s.stage k).inFlight = some f) (r : FailReason) :
    Keeps s ((s.reported k pos (reportStage pos s.now (s.stage k))).failOperation k f r
      (seenStage s.link (s.stage k).stable pos s.now)) := by
  set g : Stage → Stage := fun a => failStage (seenStage s.link (s.stage k).stable pos s.now a) with hg
  have record : Keeps s (s.reported k pos (g (reportStage pos s.now (s.stage k)))) :=
    withRecord_keeps (failed_becomes (s := s) pos he hf) rfl nofun
  unfold State.failOperation
  refine ((((record.trans (reported_changed g)).trans (notice_keeps _ _)).trans (trigger_keeps _ _ _ _)).trans
    (testSatisfied_record fun _ _ _ => ?_)).trans (selection_keeps _)
  rw [trigger_stage, notice_stage, changeStage_stage]
  exact .inl rfl

theorem reportFlight_keeps {s : State} {k : StageIx} {f : InFlight} (r : PositionReport)
    (he : (s.stage k).cfg.enabled = true) (hf : (s.stage k).inFlight = some f) :
    Keeps s ((s.reported k r.pos (reportStage r.pos s.now (s.stage k))).reportFlight k (s.stage k).stable r f) := by
  unfold State.reportFlight
  dsimp only
  split
  · next h => exact completeReport_keeps he hf h.2.2
  · split
    · exact failReport_keeps r.pos he hf _
    · split
      · exact failReport_keeps r.pos he hf _
      · have record : Keeps s (s.reported k r.pos (seenReport s r.pos (s.stage k))) :=
          withRecord_keeps (seenReport_becomes (s := s) r.pos hf) rfl id
        exact record.trans (reported_changed (b := reportStage r.pos s.now (s.stage k)) _)

/-- No report of OPEN leaves a stage CLOSED. -/
theorem openReport_state (was : Option Position) (x : Stage) :
    (openReport was x).state ≠ .closed := by
  unfold openReport
  split
  · exact nofun
  · dsimp only
    split
    · dsimp only; split <;> simp
    · next hst => exact hst

/-- A lockout left pending by a report has its stage FAILED or not reported OPEN. -/
theorem reactedReport_safe {s : State} {a : Stage} {pos : Position} (hf : a.inFlight = none)
    (fl : (reactedReport s pos a).Flies) (tr : (reactedReport s pos a).Trips)
    (h : (reactedReport s pos a).lockoutPending = true) :
    (reactedReport s pos a).state = .failed ∨ (reactedReport s pos a).reported ≠ some .open := by
  obtain ⟨hc, ho⟩ := fl.settled ((reactStage_kept s.mode a.stable pos (seenReport s pos a)).1.trans hf)
  rw [reactedReport_reported]
  rcases tr.pending h with e | e | e | e
  · cases pos using Position.named with
    | opens => exact absurd e (openReport_state _ _)
    | closed | moving | unknown => exact .inr (by simp)
  · exact .inl e
  · exact absurd e hc
  · exact absurd e ho

/-- The record of a report with nothing in flight, before any notice. -/
theorem reactedReport_known (s : State) (pos : Position) (a : Stage) (h : (reactedReport s pos a).state = .absent) :
    a.state = .absent := by
  rw [← seenReport_state s pos a]
  cases pos using Position.named with
  | opens =>
    simp only [reactedReport, reactStage, openReport] at h
    split at h
    · cases h
    · split at h
      · dsimp only at h; split at h <;> cases h
      · exact h
  | closed =>
    simp only [reactedReport, reactStage, closedReport] at h
    split at h
    · cases h
    · split at h
      · cases h
      · cases h
      · dsimp only at h; split at h <;> cases h
      · exact h
  | moving => exact h
  | unknown =>
    simp only [reactedReport, reactStage, unknownReport] at h
    split at h
    · exact h
    · cases h

/-- The steps of a report behind the change of the record: the re-opening, the notice and the test of the queued entry. -/
theorem reportIdle_keeps {s : State} {k : StageIx} {pos : Position} (he : (s.stage k).cfg.enabled = true)
    (hf : (s.stage k).inFlight = none) :
    Keeps s ((s.reported k pos (reportStage pos s.now (s.stage k))).reportIdle k (s.stage k).stable pos
      (reportStage pos s.now (s.stage k))) := by
  set x := reportStage pos s.now (s.stage k) with hx
  set g : Stage → Stage := fun b => reactStage s.mode (s.stage k).stable pos (seenStage s.link (s.stage k).stable pos s.now b)
    with hg
  have own : g x = reactedReport s pos (s.stage k) := rfl
  have changed := reported_changed (s := s) (k := k) (pos := pos) (b := x) g
  set t := (s.reported k pos x).changeStage k g with ht
  have record : t.stage k = reactedReport s pos (s.stage k) := by rw [ht, changeStage_stage, State.reported_stage, own]
  have noted {u : State} (h : Keeps s u) (safe : (u.stage k).Flies → (u.stage k).Trips →
      (u.stage k).lockoutPending = true → (u.stage k).state = .failed ∨ (u.stage k).reported ≠ some .open) :
      Keeps s (State.testSatisfied (match closedWithin pos x with
        | some ms => u.notice (.closedInCooldown k ms)
        | none => u) k) := by
    split
    · refine (h.trans (notice_keeps _ _)).trans (testSatisfied_record ?_)
      rw [notice_stage]; exact safe
    · exact h.trans (testSatisfied_record safe)
  have mode : t.mode = s.mode := by rw [ht, changeStage_only]; rfl
  suffices h : Keeps s (t.reopen k pos x) ∧ (((t.reopen k pos x).stage k).Flies → ((t.reopen k pos x).stage k).Trips →
      ((t.reopen k pos x).stage k).lockoutPending = true → ((t.reopen k pos x).stage k).state = .failed
        ∨ ((t.reopen k pos x).stage k).reported ≠ some .open) from noted h.1 h.2
  unfold State.reopen
  split
  · next h =>
    obtain ⟨rfl, hw, hst, hm⟩ := h
    have turns : (s.stage k).Turns (g x) := reactedReport_turns (s := s) .closed he hf
    have but : KeepsBut k s (s.reported k .closed (g x)) := by
      refine .of_turns rfl rfl rfl rfl ?_ (fun j hj => State.withRecord_stage_ne s _ _ hj) ?_ (.of_report (pos := .closed) rfl ?_ fun j hj =>
        State.withRecord_stage_ne s _ _ hj)
      · rw [State.reported_stage]; exact turns
      · rw [State.reported_stage]; exact reactedReport_known s .closed _
      · rw [State.reported_stage]; exact reactedReport_reported s .closed _
    have reported : (t.stage k).reported = some .closed := by rw [record, reactedReport_reported]
    refine ⟨but.covered (changed.trans (gather_keeps t k (submits_protect (by decide)))) fun hs _ => ?_, fun _ _ _ => .inr ?_⟩
    · refine gather_covers (changed.switching (but.switching hs)) hm (fun e => ?_) (by rw [reported]; simp) (by decide)
      rw [record] at e
      rw [show x.state = (s.stage k).state from rfl, reactedReport_known s .closed _ e] at hst
      cases hst
    · rw [gather_reported, reported]; simp
  · next h =>
    have became : (s.stage k).Becomes (g x) := ⟨reactedReport_turns (s := s) pos he hf, reactedReport_holds he hf (mode ▸ h)⟩
    refine ⟨(withRecord_keeps became (reactedReport_reported s pos _) (reactedReport_known s pos _)).trans changed, ?_⟩
    rw [record]
    exact reactedReport_safe hf

theorem positionRecord_keeps (r : PositionReport) (s : State) (k : StageIx) : Keeps s (State.positionRecord r s k) := by
  unfold State.positionRecord
  dsimp only
  split
  · next h => exact withRecord_keeps (disabledReport_becomes r.pos s.now (by simpa using h)) rfl id
  · next h =>
    have he : (s.stage k).cfg.enabled = true := by simpa using h
    have leave {u : State} (g : Keeps s u) :
        Keeps s (if (s.stage k).reported = some .closed ∧ r.pos ≠ .closed then u.leftClosed k else u) := by
      split
      · exact g.trans (leftClosed_steady u k).keeps
      · exact g
    refine leave ?_
    split
    · next f hf => exact reportFlight_keeps r he hf
    · next hf =>
      show Keeps s ((s.reported k r.pos (reportStage r.pos s.now (s.stage k))).reportIdle k (s.stage k).stable r.pos
        ((s.reported k r.pos (reportStage r.pos s.now (s.stage k))).stage k))
      rw [State.reported_stage]
      exact reportIdle_keeps he hf

theorem positionFrame_keeps (s : State) (src : Byte) (payload : List Byte) : Keeps s (s.positionFrame src payload) := by
  unfold State.positionFrame
  split
  · exact .of_ports rfl (ChainSafe.congr rfl rfl rfl rfl) fun h => { h with malformedPositions := bump_le h.malformedPositions }
  · exact foldl_keeps (positionRecord_keeps _) _ s

end Sys2Proof.Machine
end

section
/-! The timers of a stage, WRITE STAGE, BLOCK and RELEASE keep the standing facts. -/

namespace Sys2Proof.Machine

/-! ### Timers (R73, R76, R78) -/

/-- A record whose state changes with nothing in flight and without a lockout, before or after. -/
theorem Stage.Becomes.of_free {a b : Stage} (hf : b.inFlight = none) (hc : b.state ≠ .closing) (ho : b.state ≠ .opening)
    (trips : a.Flies → a.Trips → b.Trips) (free : a.Flies → a.Trips → b.lockoutPending = false)
    (locks : a.Flies → a.Trips → lockoutKeeps a = false) : a.Becomes b where
  flies _ := .of_grounded hf hc ho
  trips := trips
  flights := .inl hf
  stands fl tr e := absurd ((free fl tr).symm.trans e) Bool.false_ne_true
  locks fl tr e := absurd ((locks fl tr).symm.trans e) Bool.false_ne_true

theorem movingExpiry_keeps (s : State) (k : StageIx) : Keeps s (s.movingExpiry k) := by
  unfold State.movingExpiry
  split
  · next m hm =>
    split
    · next h =>
      have he : (s.stage k).cfg.enabled = true := by simp only [Bool.and_eq_true] at h; exact h.1
      refine changeStage_keeps ⟨⟨⟨fun fl => ?_, fun _ tr => ?_, .inr rfl⟩, fun _ _ e => ?_⟩, fun _ _ _ => .inl rfl⟩ rfl nofun
      · have grounded : (s.stage k).inFlight = none := by
          by_contra hf
          rw [fl.still hf] at hm; cases hm
        exact .of_grounded grounded nofun nofun
      · exact ⟨⟨nofun, fun e => by rw [show (s.stage k).cfg.enabled = false from e] at he; cases he⟩,
          fun _ _ => .inr (.inl rfl), nofun, fun _ => .inr (.inl rfl)⟩
      · simpa [lockoutKeeps, lostStage] using e
    · exact .refl s
  · exact .refl s

theorem silenceExpiry_keeps (s : State) (k : StageIx) : Keeps s (s.silenceExpiry k) := by
  unfold State.silenceExpiry
  split
  · exact (modStage_calm ⟨rfl, rfl, rfl, rfl, rfl, rfl, .inl rfl⟩).trans (changeStage_noticed s k _)
  · exact .refl s

theorem coolStage_calm (a : Stage) : a.Calm (coolStage a) := by
  unfold coolStage
  split
  · exact ⟨rfl, rfl, rfl, rfl, rfl, rfl, .inl rfl⟩
  · exact .refl a

theorem State.stage_map {s t : State} {f : Stage → Stage} (h : t.stages = s.stages.map f) (k : StageIx) :
    t.stage k = f (s.stage k) := by simp [State.stage, h]

/-- A tick counts on every cooldown, unless the internal clock skips it (R78). -/
theorem coolTick_stage (s : State) (k : StageIx) :
    s.coolTick.stage k = if (phaseTick s.clock s.tickPhase).2 then s.stage k else coolStage (s.stage k) := by
  split
  · next h => exact State.stage_congr (if_pos h) k
  · next h => exact State.stage_map (if_neg h) k

theorem coolTick_keeps (s : State) : Keeps s s.coolTick := by
  refine .of_calm rfl rfl rfl rfl rfl fun k => ?_
  rw [coolTick_stage]
  split
  · exact .refl _
  · exact coolStage_calm _

theorem cooldownOver_keeps (s : State) (k : StageIx) : Keeps s (s.cooldownOver k) := by
  unfold State.cooldownOver
  dsimp only
  split
  · next h =>
    simp only [Bool.and_eq_true, beq_iff_eq, Bool.not_eq_true'] at h
    obtain ⟨⟨⟨he, hst⟩, hw⟩, -⟩ := h
    refine (changeStage_keeps ?_ rfl fun e => by cases e).trans (selection_keeps _)
    have grounded (fl : (s.stage k).Flies) : (s.stage k).inFlight = none :=
      fl.grounded (by rw [hst]; nofun) (by rw [hst]; nofun)
    have free (tr : (s.stage k).Trips) : (s.stage k).lockoutPending = false := by
      by_contra e
      have := tr.pending (by simpa using e)
      simp [hst] at this
    refine ⟨⟨⟨fun fl => .of_grounded (grounded fl) nofun nofun, fun _ tr => ?_, .inr rfl⟩, fun _ tr e => ?_⟩,
      fun _ tr e => ?_⟩
    · refine ⟨⟨nofun, fun e => ?_⟩, fun _ e => ?_, fun e => ?_, fun e => ?_⟩
      · exact absurd (he.symm.trans e) (by simp)
      · have := tr.placed he e
        simp [hst] at this
      · exact absurd (hw.symm.trans e) (by simp)
      · exact absurd ((free tr).symm.trans e) (by simp)
    · simp [lockoutKeeps, hst, free tr] at e
    · exact absurd ((free tr).symm.trans e) (by simp)
  · exact .refl s

/-! ### WRITE STAGE (R65, R66) -/

/-- What the checks of R65 have made sure of, where they all pass. -/
structure WriteAllowed (s : State) (k : StageIx) (c : StageSettings) : Prop where
  idle : s.mode ≠ .config → s.stageBusy k = false
  unlocked : (s.stage k).cfg.enabled = true → c.enabled = false ∨ (s.stage k).cfg.unit ≠ c.unit →
    lockoutKeeps (s.stage k) = false

theorem writeAllowed_of_check {s : State} {k : StageIx} {c : StageSettings} (h : s.writeStageCheck k c = none) :
    WriteAllowed s k c := by
  unfold State.writeStageCheck at h
  dsimp only at h
  split at h
  · cases h
  · split at h
    · cases h
    · split at h
      · cases h
      next busy =>
        split at h
        · cases h
        next locked =>
          refine ⟨fun hm => ?_, fun he hd => ?_⟩
          · simpa [(State.running_iff s).2 hm] using busy
          · have differs (hu : (s.stage k).cfg.unit ≠ c.unit) : ((s.stage k).cfg.unit == c.unit) = false := by simpa using hu
            cases hc : c.enabled with
            | false => simp_all [lockoutKeeps]
            | true =>
              have hu := hd.resolve_left (by simp [hc])
              simp_all [lockoutKeeps]

/-- Where the checks pass, nothing is queued or in flight for the stage. -/
theorem WriteAllowed.grounded {s : State} {k : StageIx} {c : StageSettings} (h : WriteAllowed s k c) (hs : SwitchingSafe s) :
    (∀ e ∈ s.queue, e.stage ≠ k) ∧ (s.stage k).inFlight = none := by
  by_cases hm : s.mode = .config
  · obtain ⟨hq, hf⟩ := hs.config hm
    exact ⟨by simp [hq], hf k⟩
  · have idle := h.idle hm
    simp only [State.stageBusy, Bool.or_eq_false_iff, State.hasEntry, Option.isSome_eq_false_iff, Option.isNone_iff_eq_none,
      State.inFlightOf] at idle
    exact ⟨State.entryOf_none.1 idle.1, idle.2⟩

theorem writtenStage_reported (now : PartTime) (c : StageSettings) (a : Stage) :
    (writtenStage now c a).reported = reportedAfter a c := by
  have d : ((if a.cfg.unit = c.unit then a else readdressStage a).reported) = reportedAfter a c := by
    unfold reportedAfter; split <;> rfl
  unfold writtenStage
  dsimp only
  split
  · unfold enableStage awaitStage; dsimp only; split <;> exact d
  · split
    · exact d
    · split <;> exact d

/-- A stage that is enabled had no state and no lockout; its state follows its reported position. -/
theorem enableStage_becomes {a d : Stage} (now : PartTime) (hf : a.inFlight = none) (ha : a.cfg.enabled = false)
    (hd : d.cfg.enabled = true) (flight : d.inFlight = a.inFlight) (pending : d.lockoutPending = a.lockoutPending)
    (awaiting : d.awaiting = a.awaiting) : a.Becomes (enableStage now d) := by
  have free (tr : a.Trips) : a.lockoutPending = false ∧ a.awaiting = false ∧ a.state = .absent := by
    have hst := tr.absent.2 ha
    refine ⟨?_, ?_, hst⟩
    · by_contra e
      have := tr.pending (by simpa using e)
      simp [hst] at this
    · by_contra e
      have := tr.awaits (by simpa using e)
      simp [hst] at this
  have kept : (enableStage now d).inFlight = none ∧ (enableStage now d).lockoutPending = a.lockoutPending
      ∧ (enableStage now d).cfg = d.cfg := by
    unfold enableStage awaitStage
    split <;> exact ⟨flight.trans hf, pending, rfl⟩
  have placed : (enableStage now d).state ≠ .closing ∧ (enableStage now d).state ≠ .opening
      ∧ (enableStage now d).state ≠ .absent ∧ ((enableStage now d).reported = some .closed → (enableStage now d).state = .closed)
      ∧ ((enableStage now d).awaiting = true → d.awaiting = true ∨ (enableStage now d).state = .openCooling) := by
    unfold enableStage awaitStage
    split <;> simp_all
  obtain ⟨hfl, hp, hcfg⟩ := kept
  obtain ⟨hc, ho, habs, hpl, hw⟩ := placed
  refine .of_free hfl hc ho (fun _ tr => ?_) (fun _ tr => hp.trans (free tr).1) fun _ tr => ?_
  · refine ⟨⟨fun e => absurd e habs, fun e => ?_⟩, fun _ e => .inl (hpl e), fun e => ?_, fun e => ?_⟩
    · rw [hcfg, hd] at e; cases e
    · rcases hw e with g | g
      · rw [awaiting, (free tr).2.1] at g; cases g
      · exact g
    · rw [hp, (free tr).1] at e; cases e
  · simp [lockoutKeeps, (free tr).1, (free tr).2.2]

theorem writtenStage_becomes {s : State} {k : StageIx} {c : StageSettings} (now : PartTime) (h : WriteAllowed s k c)
    (hf : (s.stage k).inFlight = none) : (s.stage k).Becomes (writtenStage now c (s.stage k)) := by
  have unlocked := h.unlocked
  set a := s.stage k with ha
  set b := if a.cfg.unit = c.unit then a else readdressStage a with hb
  have kept : b.state = a.state ∧ b.inFlight = a.inFlight ∧ b.lockoutPending = a.lockoutPending ∧ b.awaiting = a.awaiting
      ∧ (b.moving = a.moving ∨ b.moving = none) ∧ (b.reported = a.reported ∨ b.reported = none) := by
    rw [hb]
    split
    · exact ⟨rfl, rfl, rfl, rfl, .inl rfl, .inl rfl⟩
    · exact ⟨rfl, rfl, rfl, rfl, .inr rfl, .inr rfl⟩
  obtain ⟨hst, hfl, hp, hw, hmv, hrep⟩ := kept
  have unpended (e : lockoutKeeps a = false) : a.lockoutPending = false := by
    simp only [lockoutKeeps, Bool.or_eq_false_iff] at e; exact e.2
  unfold writtenStage
  dsimp only
  split
  · next he =>
    simp only [Bool.and_eq_true, Bool.not_eq_true'] at he
    exact enableStage_becomes now hf he.1 he.2 hfl hp hw
  · split
    · next he =>
      simp only [Bool.and_eq_true, Bool.not_eq_true'] at he
      have free := unlocked he.1 (.inl he.2)
      refine .of_free (hfl.trans hf) nofun nofun (fun _ _ => ?_) (fun _ _ => hp.trans (unpended free)) fun _ _ => free
      refine ⟨⟨fun _ => he.2, fun _ => rfl⟩, fun e => ?_, nofun, fun e => ?_⟩
      · exact absurd (he.2.symm.trans e) Bool.false_ne_true
      · exact absurd ((hp.trans (unpended free)).symm.trans e) Bool.false_ne_true
    · next hne hnd =>
      have same : a.cfg.enabled = c.enabled := by
        cases ha : a.cfg.enabled <;> cases hc : c.enabled <;> simp_all
      split
      · next he =>
        simp only [Bool.and_eq_true, decide_eq_true_eq] at he
        have free := unlocked (same.trans he.1) (.inr he.2)
        refine .of_free (hfl.trans hf) nofun nofun (fun _ _ => ?_) (fun _ _ => hp.trans (unpended free)) fun _ _ => free
        refine ⟨⟨nofun, fun e => ?_⟩, fun _ e => ?_, fun _ => rfl, fun e => ?_⟩
        · exact absurd (he.1.symm.trans e) (by simp)
        · have : b.reported = some .closed := e
          rw [hb, if_neg he.2] at this; cases this
        · exact absurd ((hp.trans (unpended free)).symm.trans e) Bool.false_ne_true
      · refine Stage.Calm.reported_becomes ⟨hst, same.symm, rfl, hw, hp, congrArg _ hfl, hmv⟩ fun _ tr e g => ?_
        have : a.reported = some .closed := by
          rcases hrep with r | r
          · exact r.symm.trans g
          · have : b.reported = some .closed := g
            rw [r] at this; cases this
        show b.state = _ ∨ b.state = _ ∨ b.state = _ ∨ b.state = _
        rw [hst]
        exact tr.placed (same.trans e) this

end Sys2Proof.Machine
end

section
/-! WRITE STAGE, BLOCK and RELEASE keep the standing facts. -/

namespace Sys2Proof.Machine

/-- The settings, the address, enabling and disabling, with the in-service list, before any notice (R66). -/
def State.written (s : State) (k : StageIx) (c : StageSettings) : State :=
  s.withRecord k (writtenStage s.now c (s.stage k))
    (if (s.stage k).cfg.unit = c.unit then s.inService else s.inService.erase k)

theorem written_inService {s : State} {k : StageIx} {c : StageSettings} (h : InServiceSafe s) :
    InServiceSafe (s.written k c) := by
  have own : ((s.written k c).stage k).reported = reportedAfter (s.stage k) c := by
    rw [State.written, State.withRecord_stage, writtenStage_reported]
  have other (j) (hj : j ≠ k) : (s.written k c).stage j = s.stage j := State.withRecord_stage_ne s _ _ hj
  have exact (j) := h.exact j
  by_cases hu : (s.stage k).cfg.unit = c.unit
  · have list : (s.written k c).inService = s.inService := if_pos hu
    refine .of_reported list (fun j => ?_) h
    by_cases e : j = k
    · subst e; rw [own]; exact if_pos hu
    · rw [other j e]
  · have list : (s.written k c).inService = s.inService.erase k := if_neg hu
    refine ⟨list ▸ h.nodup.erase k, fun j => ?_⟩
    rw [list, h.nodup.mem_erase_iff]
    by_cases e : j = k
    · subst e; rw [own, show reportedAfter (s.stage j) c = none from if_neg hu]; simp
    · rw [other j e]; simp [e, exact j]

theorem written_keeps {s : State} {k : StageIx} {c : StageSettings} (h : WriteAllowed s k c) : Keeps s (s.written k c) := by
  by_cases hs : SwitchingSafe s
  · obtain ⟨free, grounded⟩ := h.grounded hs
    refine .of_becomes rfl rfl rfl rfl (State.forall_modStage (f := writtenStage s.now c) (P := fun j b => (s.stage j).Becomes b)
      (writtenStage_becomes s.now h grounded) fun j _ => (Stage.Calm.refl _).becomes) (fun e he => ?_) written_inService
    rw [State.written, State.withRecord_stage_ne s _ _ (free e he)]
    exact id
  · exact .of_unsafe (.of_stages rfl written_inService) hs

theorem applyStage_keeps {s : State} {k : StageIx} {c : StageSettings} (h : WriteAllowed s k c) : Keeps s (s.applyStage k c) := by
  have changed : Keeps s ((if (s.stage k).cfg.unit = c.unit then s else { s with inService := s.inService.erase k }).changeStage k
      (writtenStage s.now c)) := by
    refine Keeps.trans ?_ (changeStage_noticed _ k _)
    have written := written_keeps h
    rw [State.written] at written
    split
    · next hu => rw [if_pos hu] at written; exact written
    · next hu => rw [if_neg hu] at written; exact written
  unfold State.applyStage
  dsimp only
  generalize (if (s.stage k).cfg.unit = c.unit then s else { s with inService := s.inService.erase k }).changeStage k
      (writtenStage s.now c) = u at changed
  have disabled : Keeps s (if ((s.stage k).cfg.enabled && !c.enabled) = true then
      ((u.clearAlarm k .disabled none none).clearOverload k .disabled).clearBar k none else u) := by
    split
    · exact changed.trans (((clearAlarm_steady u k _ _ _).trans (clearOverload_steady _ k _)).trans (clearBar_steady _ k _)).keeps
    · exact changed
  generalize (if ((s.stage k).cfg.enabled && !c.enabled) = true then
      ((u.clearAlarm k .disabled none none).clearOverload k .disabled).clearBar k none else u) = v at disabled
  have unbalanced : Keeps s (if unbalanceDiffers (s.stage k).cfg c = true then v.unbalanceSettings k else v) := by
    split
    · exact disabled.trans (unbalanceSettings_steady v k).keeps
    · exact disabled
  refine Keeps.trans ?_ (abandonCapture_steady _ k _).keeps
  split
  · exact unbalanced.trans (overloadSettings_steady _ k).keeps
  · exact unbalanced

theorem doWriteStage_keeps (s : State) (stage : Byte) (w : StageWrite) : Keeps s (s.doWriteStage stage w).1 := by
  unfold State.doWriteStage
  split
  · exact .refl s
  · split
    · exact .refl s
    · split
      · exact .refl s
      · next h => exact applyStage_keeps (writeAllowed_of_check h)

theorem doBlock_keeps (s : State) (value : Bool) (stage : Byte) : Keeps s (s.doBlock value stage).1 := by
  unfold State.doBlock
  split
  · exact .refl s
  · dsimp only
    exact (modStage_calm ⟨rfl, rfl, rfl, rfl, rfl, rfl, .inl rfl⟩).trans (changeStage_noticed s _ _)

/-! ### RELEASE (R82, R83): the one request that ends a lockout -/

/-- The states a RELEASE that is carried out starts from. -/
theorem releaseCheck_none {s : State} {k : StageIx} (h : s.releaseCheck k = none) :
    ((s.stage k).state = .lockedOut ∧ (s.stage k).reported = some .open)
    ∨ ((s.stage k).state = .failed ∧ s.stageBusy k = false ∧
      (((s.stage k).reported = some .closed ∧ (s.stage k).lockoutPending = false) ∨ (s.stage k).reported = some .open)) := by
  unfold State.releaseCheck at h
  dsimp only at h
  split at h
  · next hst =>
    split at h
    · next hr => exact .inl ⟨hst, hr⟩
    · cases h
  · split at h
    · next hst =>
      split at h
      · cases h
      · next busy =>
        split at h
        · cases h
        · next locked =>
          split at h
          · next hr =>
            refine .inr ⟨hst, by simpa using busy, ?_⟩
            rcases hr with hr | hr
            · exact .inr hr
            · exact .inl ⟨hr, by simpa [hr] using locked⟩
          · cases h
    · cases h

/-- A record that RELEASE may act on: locked out and open, or failed and either open or closed without a lockout. -/
def Stage.Releasable (a : Stage) : Prop :=
  (a.state = .lockedOut ∧ a.reported = some .open)
    ∨ (a.state = .failed ∧ ((a.reported = some .closed ∧ a.lockoutPending = false) ∨ a.reported = some .open))

/-- The three records a RELEASE leaves: out of LOCKED_OUT, FAILED and closed, FAILED and open. -/
theorem releasedStage_cases {a : Stage} (h : a.Releasable) :
    (a.state = .lockedOut ∧ a.reported = some .open ∧ releasedStage a = { a with
      closedInCooldown := false, moving := none, state := if a.cooling = 0 then .openReady else .openCooling })
    ∨ (a.state = .failed ∧ a.lockoutPending = false ∧ releasedStage a = { a with
      closedInCooldown := false, moving := none, state := .closed, cooling := 0 })
    ∨ (a.state = .failed ∧ a.reported = some .open ∧ releasedStage a = { a with
      closedInCooldown := false, moving := none, state := if a.lockoutPending then .lockedOut else .openCooling
      cooling := fullCooldown a, lockoutPending := false }) := by
  rcases h with ⟨hst, ho⟩ | ⟨hst, ⟨hc, hp⟩ | ho⟩
  · exact .inl ⟨hst, ho, if_pos hst⟩
  · exact .inr (.inl ⟨hst, hp, (if_neg (by rw [hst]; nofun)).trans (if_pos hc)⟩)
  · exact .inr (.inr ⟨hst, ho, (if_neg (by rw [hst]; nofun)).trans (if_neg (by rw [ho]; nofun))⟩)

theorem Stage.Releasable.grounded {a : Stage} (h : a.Releasable) (fl : a.Flies) : a.inFlight = none := by
  rcases h with ⟨hst, -⟩ | ⟨hst, -⟩ <;> exact fl.grounded (by rw [hst]; nofun) (by rw [hst]; nofun)

theorem Stage.Releasable.enabled {a : Stage} (h : a.Releasable) (tr : a.Trips) : a.cfg.enabled ≠ false := fun e => by
  have := tr.absent.2 e
  rcases h with ⟨hst, -⟩ | ⟨hst, -⟩ <;> rw [hst] at this <;> cases this

theorem Stage.Releasable.awaits {a : Stage} (h : a.Releasable) (tr : a.Trips) : a.awaiting ≠ true := fun e => by
  have := tr.awaits e
  rcases h with ⟨hst, -⟩ | ⟨hst, -⟩ <;> rw [hst] at this <;> cases this

theorem releasedStage_free {a : Stage} (h : a.Releasable) (tr : a.Trips) : (releasedStage a).lockoutPending = false := by
  rcases releasedStage_cases h with ⟨hst, -, e⟩ | ⟨-, hp, e⟩ | ⟨-, -, e⟩ <;> rw [e]
  · by_contra hp
    have := tr.pending (by simpa using hp)
    simp [hst] at this
  · exact hp

theorem releasedStage_reported (a : Stage) : (releasedStage a).reported = a.reported := by
  unfold releasedStage; dsimp only; split <;> [skip; split] <;> rfl

theorem releasedStage_known {a : Stage} (h : a.Releasable) :
    (releasedStage a).state ≠ .absent ∧ (releasedStage a).state ≠ .closing ∧ (releasedStage a).state ≠ .opening := by
  rcases releasedStage_cases h with ⟨-, -, e⟩ | ⟨-, -, e⟩ | ⟨-, -, e⟩ <;> rw [e] <;> dsimp only <;> [split; skip; split] <;> simp

theorem releasedStage_passes {a : Stage} (h : a.Releasable) : a.Passes (releasedStage a) := by
  obtain ⟨known, hc, ho⟩ := releasedStage_known h
  have kept : (releasedStage a).inFlight = a.inFlight ∧ (releasedStage a).cfg = a.cfg
      ∧ (releasedStage a).awaiting = a.awaiting := by
    unfold releasedStage; dsimp only; split <;> [skip; split] <;> exact ⟨rfl, rfl, rfl⟩
  obtain ⟨hf, hcfg, hw⟩ := kept
  refine ⟨fun fl => .of_grounded (hf.trans (h.grounded fl)) hc ho, fun _ tr => ⟨⟨fun e => absurd e known, fun e => ?_⟩,
    fun _ e => ?_, fun e => absurd (hw ▸ e) (h.awaits tr), fun e => ?_⟩, .inr (congrArg _ hf)⟩
  · exact absurd (hcfg ▸ e) (h.enabled tr)
  · rw [releasedStage_reported] at e
    rcases releasedStage_cases h with ⟨-, hr, -⟩ | ⟨-, -, g⟩ | ⟨-, hr, -⟩
    · rw [hr] at e; cases e
    · rw [g]; exact .inl rfl
    · rw [hr] at e; cases e
  · exact absurd ((releasedStage_free h tr).symm.trans e) Bool.false_ne_true

/-- It keeps every standing fact, and no lockout that is pending ends but in LOCKED_OUT. -/
structure Yields (s t : State) : Prop extends KeepsSafe s t where
  pends : ∀ k, SwitchingSafe s → TripBase s → (s.stage k).lockoutPending = true → lockoutKeeps (t.stage k) = true

theorem Keeps.yields {s t : State} (h : Keeps s t) : Yields s t :=
  ⟨h.toKeepsSafe, fun k hs hb e => h.locks k hs hb (by simp [lockoutKeeps, e])⟩

theorem Yields.trans {s t u : State} (h : Yields s t) (g : Keeps t u) : Yields s u :=
  ⟨h.toKeepsSafe.trans g.toKeepsSafe, fun k hs hb e => g.locks k (h.switching hs) (h.base hs hb) (h.pends k hs hb e)⟩

/-- What comes before has left the stage records as they were. -/
theorem Yields.after {s t u : State} (g : Yields t u) (h : Keeps s t) (hst : t.stages = s.stages) : Yields s u :=
  ⟨h.toKeepsSafe.trans g.toKeepsSafe, fun k hs hb e =>
    g.pends k (h.switching hs) (h.base hs hb) (by rw [State.stage_congr hst]; exact e)⟩

theorem released_yields {s : State} {k : StageIx} (h : (s.stage k).Releasable) : Yields s (s.modStage k releasedStage) := by
  have all : ∀ j, (s.stage j).Passes ((s.modStage k releasedStage).stage j) :=
    State.forall_modStage (P := fun j b => (s.stage j).Passes b) (releasedStage_passes h)
      fun j _ => (Stage.Calm.refl _).becomes.toPasses
  have holds : ∀ j, (s.stage j).Holds ((s.modStage k releasedStage).stage j) :=
    State.forall_modStage (P := fun j b => (s.stage j).Holds b)
      (fun _ tr e => absurd ((releasedStage_free h tr).symm.trans e) Bool.false_ne_true)
      fun j _ => (Stage.Calm.refl _).becomes.stands
  have known : ∀ j, (s.stage j).state ≠ .absent → ((s.modStage k releasedStage).stage j).state ≠ .absent :=
    State.forall_modStage (P := fun j b => (s.stage j).state ≠ .absent → b.state ≠ .absent)
      (fun _ => (releasedStage_known h).1) fun _ _ => id
  have reported : ∀ j, ((s.modStage k releasedStage).stage j).reported = (s.stage j).reported :=
    State.forall_modStage (P := fun j b => b.reported = (s.stage j).reported) (releasedStage_reported _) fun _ _ => rfl
  refine ⟨⟨.of_stages rfl (.of_reported rfl reported), .of_passes rfl rfl rfl rfl rfl all, .of_passes rfl all fun e _ => known e.stage,
    fun j hs g => Stands.of_holds (s := s) (t := s.modStage k releasedStage) rfl (holds j) (hs.flies j) (g.stage j)⟩, fun j _ hb => ?_⟩
  refine State.forall_modStage (P := fun j b => (s.stage j).lockoutPending = true → lockoutKeeps b = true) (fun e => ?_)
    (fun _ _ e => by simp [lockoutKeeps, e]) j
  rcases releasedStage_cases h with ⟨hst, -, -⟩ | ⟨-, hp, -⟩ | ⟨-, -, g⟩
  · have := (hb.stage k).pending e
    simp [hst] at this
  · rw [hp] at e; cases e
  · rw [g]; simp [lockoutKeeps, e]

theorem applyRelease_yields {s : State} {k : StageIx} (h : (s.stage k).Releasable) : Yields s (s.applyRelease k) := by
  have changed := (released_yields h).trans (changeStage_noticed s k releasedStage)
  have cleared := changed.trans ((((clearAlarm_steady _ k .release none none).trans (clearOverload_steady _ k .release)).trans
    (clearBar_steady _ k none)).trans (abandonCapture_steady _ k .release)).keeps
  unfold State.applyRelease
  dsimp only
  split
  · exact cleared.trans (selection_keeps _)
  · exact cleared

theorem doRelease_yields (s : State) (stage : Byte) : Yields s (s.doRelease stage).1 := by
  unfold State.doRelease
  split
  · exact (Keeps.refl s).yields
  · split
    · exact (Keeps.refl s).yields
    · next h => exact applyRelease_yields ((releaseCheck_none h).imp id fun ⟨hst, _, hr⟩ => ⟨hst, hr⟩)

end Sys2Proof.Machine
end

section
/-! Part control, manual switching, capture requests and the timers of chapters 5, 9 and 10 keep the standing facts. -/

namespace Sys2Proof.Machine

/-! ### Supervisor timers and manual switching (chapter 5) -/

theorem failOperation_keeps {s : State} {k : StageIx} {f : InFlight} (hf : (s.stage k).inFlight = some f) (r : FailReason) :
    Keeps s (s.failOperation k f r id) := by
  have failed : (s.stage k).Becomes (failStage (s.stage k)) := by
    refine ⟨⟨⟨fun _ => .of_grounded rfl nofun nofun, fun fl tr => ?_, .inl rfl⟩, fun fl _ e => ?_⟩, fun _ _ _ => .inl rfl⟩
    · refine ⟨⟨nofun, fun e => ?_⟩, fun _ _ => .inr (.inl rfl), fun e => ?_, fun _ => .inr (.inl rfl)⟩
      · have := tr.absent.2 e
        rw [fl.flying hf] at this; split at this <;> cases this
      · have := tr.awaits e
        rw [fl.flying hf] at this; split at this <;> cases this
    · have : (s.stage k).state ≠ .lockedOut := by rw [fl.flying hf]; split <;> simp
      simpa [lockoutKeeps, failStage, this] using e
  unfold State.failOperation
  refine (((((changeStage_keeps failed rfl nofun).trans (notice_keeps _ _)).trans (trigger_keeps _ _ _ _)).trans
    (testSatisfied_record fun _ _ _ => ?_))).trans (selection_keeps _)
  rw [trigger_stage, notice_stage, changeStage_stage]
  exact .inl rfl

theorem switchTimeout_keeps (s : State) (k : StageIx) : Keeps s (s.switchTimeout k) := by
  unfold State.switchTimeout
  split
  · next f hf =>
    split
    · exact failOperation_keeps hf _
    · exact .refl s
  · exact .refl s

theorem closeGapExpiry_keeps (s : State) : Keeps s s.closeGapExpiry := by
  unfold State.closeGapExpiry
  split
  · exact selection_keeps s
  · exact .refl s

theorem doManualClose_keeps (s : State) (stage : Byte) : Keeps s (s.doManualClose stage).1 := by
  unfold State.doManualClose
  split
  · exact .refl s
  · split
    · exact .refl s
    · exact gather_keeps s _ (submits_normal .close .manual)

theorem doManualOpen_keeps (s : State) (stage : Byte) : Keeps s (s.doManualOpen stage).1 := by
  unfold State.doManualOpen
  split
  · exact .refl s
  · split
    · exact .refl s
    · split
      · exact .refl s
      · exact gather_keeps s _ (submits_normal .open .manual)

theorem doCaptureBalance_keeps (s : State) (stage : Byte) : Keeps s (s.doCaptureBalance stage).1 := by
  unfold State.doCaptureBalance
  split
  · exact .refl s
  · split
    · exact .refl s
    · dsimp only
      exact modStage_calm ⟨rfl, rfl, rfl, rfl, rfl, rfl, .inl rfl⟩

/-! ### Time base, clock and watchdog (chapter 10) -/

theorem tick_keeps (s : State) : Keeps s s.tick :=
  Keeps.trans (t := { s with
    now := s.now + 1, recovery := if s.clock = .internal then min 17 (s.recovery + 1) else s.recovery }) (.of_quiet rfl)
    (coolTick_keeps _)

theorem changeClock_keeps (s : State) (c : ClockSource) : Keeps s (s.changeClock c) :=
  Keeps.trans (t := { s with clock := c, recovery := 0 }) (.of_quiet rfl) (notice_keeps _ _)

theorem referenceLoss_keeps (s : State) : Keeps s s.referenceLoss := by
  unfold State.referenceLoss
  split
  · exact changeClock_keeps s _
  · exact .refl s

theorem referenceReturn_keeps (s : State) : Keeps s s.referenceReturn := by
  unfold State.referenceReturn
  split
  · exact changeClock_keeps s _
  · exact .refl s

theorem referenceGap_keeps (s : State) : Keeps s s.referenceGap := by
  unfold State.referenceGap
  split
  · exact .of_quiet rfl
  · exact .refl s

theorem restartWatchdog_keeps (s : State) : Keeps s s.restartWatchdog := .of_quiet rfl

/-! ### Part modes (R177 to R179) -/

/-- A change of mode outside reset; into CONFIG only with nothing queued or in flight. -/
theorem modeChange_keeps {s t : State} (h : onlyStages s t) (hst : t.stages = s.stages) (hi : t.inService = s.inService)
    (hq : t.queue = s.queue) (ht : t.tag = s.tag) (held : s.held = false ∨ t.mode = .config)
    (config : t.mode = .config → s.queue = [] ∧ ∀ k, (s.stage k).inFlight = none) : Keeps s t := by
  have st := State.stage_congr hst
  refine .of_stages h (fun g => ?_) (.congr hi hst) (fun _ => TripBase.congr hq hst) (fun _ _ _ => Stands.congr hq hst)
    fun k _ _ g => by rw [st]; exact g
  have hl : t.link = s.link := by rw [h]
  have hh : t.held = s.held := by rw [h]
  exact ⟨hq ▸ g.single, hq ▸ g.closeNormal, fun k => st k ▸ g.closing k, fun k => st k ▸ g.opening k, fun k => st k ▸ g.still k,
    (by rw [State.closeFlights_congr hst, hl]; exact g.paced), fun e => (by simp only [hq, st]; exact config e),
    fun e => held.elim (fun f => absurd (f.symm.trans (hh ▸ e)) Bool.false_ne_true) id, ht ▸ g.tagged⟩

theorem serviceCooldown_keeps (k : StageIx) (s : State) : Keeps s (State.serviceCooldown k s) := by
  unfold State.serviceCooldown
  split
  · next h =>
    simp only [Bool.and_eq_true, beq_iff_eq] at h
    obtain ⟨he, hr⟩ := h
    by_cases hst : (s.stage k).state = .openReady
    · have state : (serviceStage (s.stage k)).state = .openCooling := if_pos hst
      have free (tr : (s.stage k).Trips) : (s.stage k).lockoutPending = false := by
        by_contra e
        have := tr.pending (by simpa using e)
        simp [hst] at this
      refine changeStage_keeps ⟨⟨⟨fun fl => ?_, fun _ tr => ?_, .inr rfl⟩, fun _ tr e => ?_⟩, fun _ tr e => ?_⟩ rfl ?_
      · exact .of_grounded (fl.grounded (by rw [hst]; nofun) (by rw [hst]; nofun)) (by rw [state]; nofun) (by rw [state]; nofun)
      · refine ⟨by rw [state]; simp [serviceStage, he], fun _ e => ?_, fun _ => state, fun e => ?_⟩
        · exact absurd (hr.symm.trans e) (by simp)
        · exact absurd ((free tr).symm.trans e) Bool.false_ne_true
      · simp [lockoutKeeps, hst, free tr] at e
      · exact absurd ((free tr).symm.trans e) Bool.false_ne_true
      · rw [state]; exact nofun
    · exact (modStage_calm (f := serviceStage) ⟨if_neg hst, rfl, rfl, rfl, rfl, rfl, .inl rfl⟩).trans (changeStage_noticed s k _)
  · exact .refl s

theorem startElements_keeps (s : State) : Keeps s s.startElements := by
  refine Keeps.trans (t := { s with stages := s.stages.map startStage }) (.of_calm rfl rfl rfl rfl rfl fun k => ?_) (.of_quiet rfl)
  rw [State.stage_map (s := s) (t := { s with stages := s.stages.map startStage }) (f := startStage) rfl]
  exact ⟨rfl, rfl, rfl, rfl, rfl, rfl, .inl rfl⟩

theorem doEnterService_keeps {s : State} (hh : s.held = false) : Keeps s s.doEnterService.1 := by
  unfold State.doEnterService
  split
  · exact .refl s
  · have moded : Keeps s { s with mode := .service } := modeChange_keeps rfl rfl rfl rfl rfl (.inl hh) nofun
    have cooled := moded.trans (forStages_keeps (f := State.serviceCooldown) serviceCooldown_keeps { s with mode := .service })
    dsimp only
    unfold State.applyEnterService
    generalize State.forStages { s with mode := .service } State.serviceCooldown = u at cooled
    exact ((cooled.trans (startElements_keeps u)).trans (selection_keeps _)).trans (notice_keeps _ _)

/-- Nothing is queued or in flight in a yard that is not busy (R100). -/
theorem State.yardBusy_false {s : State} (h : s.yardBusy = false) : s.queue = [] ∧ ∀ k, (s.stage k).inFlight = none := by
  obtain ⟨hq, hf⟩ := Bool.or_eq_false_iff.1 h
  have none : allStages.filter (fun k => (s.inFlightOf k).isSome) = [] :=
    List.length_eq_zero_iff.1 (Nat.eq_zero_of_not_pos (of_decide_eq_false hf))
  refine ⟨by simpa using hq, fun k => ?_⟩
  simpa [State.inFlightOf] using List.filter_eq_nil_iff.1 none k (mem_allStages k)

theorem configCapture_safe {s t : State} (h : t.cap = configCapture s.cap) (g : CaptureSafe s) : CaptureSafe t := by
  unfold configCapture at h
  split at h
  · next e => exact .of_emptied (s := s) (by rw [h]) (by rw [h]) (.inl (by rw [h]; exact e)) g
  · next e => exact .of_emptied (s := s) (by rw [h]) (by rw [h]) (.inr (by rw [h]; exact e)) g
  · exact .congr h g
  · exact .congr h g

theorem doEnterConfig_keeps (s : State) : Keeps s s.doEnterConfig.1 := by
  unfold State.doEnterConfig
  split
  · exact .refl s
  · next h =>
    have quiet : s.queue = [] ∧ ∀ k, (s.stage k).inFlight = none := by
      unfold State.enterConfigCheck at h
      split at h
      · cases h
      · split at h
        · cases h
        · next busy => exact State.yardBusy_false (by simpa using busy)
    have moded : Keeps s { s with mode := .config, vc := { s.vc with ctl := .stopped } } :=
      modeChange_keeps rfl rfl rfl rfl rfl (.inr rfl) fun _ => quiet
    refine (Keeps.trans (moded.trans ?_) (notice_keeps { s with
      mode := .config, vc := { s.vc with ctl := .stopped }, cap := configCapture s.cap } _))
    refine .of_capture rfl (configCapture_safe rfl) fun m => ?_
    show (configCapture s.cap).missed ≤ _
    unfold configCapture
    split <;> exact m

/-- The loss of MANUAL entries, which are of class NORMAL (R103). -/
theorem dropManual_keeps (s : State) : Keeps s s.dropManual := by
  have all (l : List QueueEntry) : ∀ s : State,
      (∀ e ∈ l, e.origin = .manual ∧ ∀ x ∈ s.queue, x.stage = e.stage → x = e) →
      Keeps s (l.foldl (fun s e => s.dropEntry e .fallback) s) := by
    induction l with
    | nil => exact fun s _ => .refl s
    | cons e l ih =>
      intro s h
      obtain ⟨manual, own⟩ := h e List.mem_cons_self
      have dropped : Keeps s (s.dropEntry e .fallback) := by
        refine Keeps.trans (.of_dropped List.filter_sublist fun _ hb x hx hq hc _ => ?_) (notice_keeps _ _)
        obtain rfl := own x hx (by simpa [hx] using hq)
        exact absurd manual (hb.protects x hx hc).2
      refine dropped.trans (ih _ fun y hy => ?_)
      obtain ⟨m, o⟩ := h y (List.mem_cons_of_mem e hy)
      rw [dropEntry_queue]
      exact ⟨m, fun x hx => o x (List.mem_filter.1 hx).1⟩
  unfold State.dropManual
  by_cases hs : SwitchingSafe s
  · refine all _ s fun e he => ?_
    obtain ⟨mem, manual⟩ := List.mem_filter.1 he
    exact ⟨by simpa using manual, fun x hx hk => hs.unique mem hx hk⟩
  · refine .of_unsafe ?_ hs
    exact foldl_frame (fun s => (Keeps.refl s).toKeepsPlain) KeepsPlain.trans (fun s e => dropEntry_plain s e .fallback) _ s

theorem changeForce_keeps {s : State} {m : Mode} (hm : m ≠ .config) (hs : s.mode ≠ .config) (w : Bool) :
    Keeps s (s.changeForce m w) := by
  have moded : Keeps s { s with mode := m } := by
    by_cases hh : s.held = false
    · exact modeChange_keeps rfl rfl rfl rfl rfl (.inl hh) fun e => absurd e hm
    · exact .of_unsafe ⟨.congr rfl rfl rfl rfl, .congr rfl rfl, .congr rfl rfl, .congr rfl, id⟩
        fun g => hs (g.held (by simpa using hh))
  have dropped : Keeps s (if m = .fallback then (State.notice { s with mode := m } (.mode s.mode m w)).dropManual
      else State.notice { s with mode := m } (.mode s.mode m w)) := by
    split
    · exact (moded.trans (notice_keeps _ _)).trans (dropManual_keeps _)
    · exact moded.trans (notice_keeps _ _)
  exact (dropped.trans (modVc_keeps _ _)).trans (selection_keeps _)

theorem doForceFallback_keeps (s : State) : Keeps s s.doForceFallback.1 := by
  unfold State.doForceFallback
  split
  · exact .refl s
  · next h => exact changeForce_keeps (m := .fallback) nofun (by rw [h]; nofun) _
  · exact .refl s

theorem doResume_keeps (s : State) : Keeps s s.doResume.1 := by
  unfold State.doResume
  split
  · exact .refl s
  · exact .refl s
  · next h => exact changeForce_keeps (m := .service) nofun (by rw [h]; nofun) _

theorem watchdogExpiry_keeps (s : State) : Keeps s s.watchdogExpiry := by
  unfold State.watchdogExpiry
  split
  · split
    · dsimp only
      split
      · next h =>
        have hm : ({ s with watchdog := .expired } : State).mode ≠ .config := by show s.mode ≠ _; rw [h]; nofun
        exact Keeps.trans (t := { s with watchdog := .expired }) (.of_quiet rfl) (changeForce_keeps (m := .fallback) nofun hm _)
      · exact .of_quiet rfl
    · exact .refl s
  · exact .refl s
  · exact .refl s

/-! ### Capture requests (R170 to R173) -/

theorem clampNat_le {lo hi n : Nat} (h : lo ≤ hi) : clampNat lo hi n ≤ hi := by
  unfold clampNat; split <;> [skip; split] <;> omega

theorem readArm_missed {c d : CaptureState} {w : Option ArmWrite} (h : readArm c w = some d) :
    d.missed = c.missed ∧ d.store = c.store ∧ (c.preCount ≤ 15 → d.preCount ≤ 15) := by
  cases w with
  | none => obtain rfl := Option.some.inj h; exact ⟨rfl, rfl, id⟩
  | some w =>
    obtain ⟨m, -, rfl⟩ := Option.map_eq_some_iff.1 h
    exact ⟨rfl, rfl, fun _ => clampNat_le (Nat.zero_le 15)⟩

theorem doArmCapture_keeps (s : State) (w : Option ArmWrite) : Keeps s (s.doArmCapture w).1 := by
  unfold State.doArmCapture
  split
  · exact .refl s
  · next c h =>
    obtain ⟨missed, store, pre⟩ := readArm_missed h
    split
    · exact .refl s
    · split
      · exact .refl s
      · refine .of_capture rfl (fun g => ?_) fun m => missed ▸ m
        have count := pre g.count
        have kept : (trimmedStore c).store.length ≤ c.preCount + 1 := by simp [trimmedStore]; omega
        exact ⟨count, (by dsimp only; omega), fun _ => kept, (by rintro (e | e) <;> cases e)⟩

theorem doTriggerCapture_keeps (s : State) : Keeps s s.doTriggerCapture.1 := trigger_keeps s _ _ _

theorem doReleaseCapture_keeps (s : State) : Keeps s s.doReleaseCapture.1 := by
  unfold State.doReleaseCapture
  split
  · refine .of_capture rfl (.of_emptied rfl rfl ?_) id
    show (if s.cap.mode = .repeating then s.rearmed else .disarmed) = _
      ∨ (if s.cap.mode = .repeating then s.rearmed else .disarmed) = _
    split
    · exact rearmed_cases s
    · exact .inl rfl
  · next h =>
    exact .of_capture rfl (fun g => ⟨g.count, g.record, fun _ => g.ring (.inr h), (by rintro (e | e) <;> cases e)⟩) id
  · exact .refl s
  · exact .refl s

end Sys2Proof.Machine
end

section
/-! The channel map, the tables and the link settings keep the standing facts. -/

namespace Sys2Proof.Machine

/-! ### Appending entries (R23 to R25) -/

/-- What `MapSafe` asks of a map and its list of source addresses, but for the map's room. -/
structure MapOrdered (m : List MapEntry) (srcs : List Byte) : Prop where
  twice : ∀ r, (entriesOf m r).length ≤ 2
  pairs : m.Pairwise fun a b => ¬ (a.source = b.source ∧ a.slot = b.slot)
  captures : (m.filter (·.capture)).length ≤ 8
  sources : srcs = sourcesOf m
  few : srcs.length ≤ 8

theorem sourcesOf_append (m : List MapEntry) (e : MapEntry) :
    sourcesOf (m ++ [e]) = if e.source ∈ sourcesOf m then sourcesOf m else sourcesOf m ++ [e.source] := by
  rw [sourcesOf, List.foldl_append]; rfl

theorem entriesOf_append (m : List MapEntry) (e : MapEntry) (r : Role) :
    entriesOf (m ++ [e]) r = entriesOf m r ++ if e.role = some r then [e] else [] := by
  simp only [entriesOf, List.filter_append, List.filter_cons, List.filter_nil, decide_eq_true_eq]

/-- An entry that passes the checks of R23 joins the map, its flag kept as R25 has it. -/
theorem MapOrdered.append {m : List MapEntry} {srcs : List Byte} {e : MapEntry} (h : MapOrdered m srcs)
    (check : entryCheck m srcs e = none) :
    MapOrdered (m ++ [{ e with capture := keptFlag m e }]) (if e.source ∈ srcs then srcs else srcs ++ [e.source]) := by
  unfold entryCheck at check
  split at check
  · cases check
  next room =>
    split at check
    · cases check
    next fresh =>
      split at check
      · cases check
      next few =>
        refine ⟨fun r => ?_, ?_, ?_, ?_, ?_⟩
        · rw [entriesOf_append]
          dsimp only
          split
          · next hr =>
            have : (entriesOf m r).length < 2 := by simpa [hr] using room
            simpa using this
          · simpa using h.twice r
        · refine List.pairwise_append.2 ⟨h.pairs, by simp, fun x hx y hy => ?_⟩
          obtain rfl := List.mem_singleton.1 hy
          intro same
          exact fresh (List.any_eq_true.2 ⟨x, hx, decide_eq_true same⟩)
        · rw [List.filter_append, List.length_append]
          cases hk : keptFlag m e with
          | false => simpa using h.captures
          | true =>
            simp only [keptFlag, Bool.and_eq_true, decide_eq_true_eq] at hk
            simp; omega
        · rw [sourcesOf_append, ← h.sources]
        · split
          · exact h.few
          · next new =>
            have : ¬ 8 ≤ srcs.length := fun e' => few ⟨new, e'⟩
            simp; omega

/-- The entries join one by one. -/
theorem appendEntries_stored : ∀ (ws : List MapEntryWrite) {i : Nat} {m m' : List MapEntry} {srcs srcs' : List Byte}
    {c c' : Bool}, appendEntries i m srcs c ws = .stored m' srcs' c' →
    (MapOrdered m srcs → MapOrdered m' srcs') ∧ m'.length = m.length + ws.length ∧ srcs <+: srcs'
  | [], i, m, m', srcs, srcs', c, c', h => by
    unfold appendEntries at h
    injection h with hm hs
    subst hm; subst hs
    exact ⟨id, rfl, List.prefix_refl _⟩
  | w :: ws, i, m, m', srcs, srcs', c, c', h => by
    unfold appendEntries at h
    split at h
    · cases h
    · next e _ =>
      split at h
      · cases h
      · next check =>
        obtain ⟨ordered, length, pre⟩ := appendEntries_stored ws h
        refine ⟨fun g => ordered (g.append check), ?_, List.IsPrefix.trans ?_ pre⟩
        · simp only [List.length_append, List.length_cons, List.length_nil] at length ⊢; omega
        · split
          · exact List.prefix_refl _
          · exact List.prefix_append _ _

theorem State.closeFlights_zero {s : State} (h : ∀ k, (s.stage k).inFlight = none) : s.closeFlights = 0 := by
  simp [State.closeFlights, State.inFlightOf, h]

/-- The tables of intake, voltage control, harmonics and the link change; the map only as `MapSafe` allows, the close limit
only while nothing is in flight. -/
theorem Keeps.of_tables {s t : State}
    (h : t = { s with
      link := t.link, map := t.map, sources := t.sources, roles := t.roles, yardIx := t.yardIx, tracker := t.tracker
      mapOverflow := t.mapOverflow, watchdog := t.watchdog })
    (map : MapSafe s → MapSafe t) (overflow : s.mapOverflow ≤ 4294967295 → t.mapOverflow ≤ 4294967295)
    (limit : s.mode ≠ .config → t.link.closeLimit = s.link.closeLimit) : Keeps s t where
  chain := ChainSafe.congr (by rw [h]) (by rw [h]) (by rw [h]) (by rw [h])
  capture := CaptureSafe.congr (by rw [h])
  counters g := by
    obtain ⟨a, b, c, d, e, f, i, j, l, m⟩ := (countersSafe_iff s).1 g
    rw [countersSafe_iff, h]
    exact ⟨a, b, c, d, e, f, i, overflow j, l, m⟩
  switching g := by
    have hst : t.stages = s.stages := by rw [h]
    have hm : t.mode = s.mode := by rw [h]
    have hq : t.queue = s.queue := by rw [h]
    have st := State.stage_congr hst
    refine ⟨hq ▸ g.single, hq ▸ g.closeNormal, fun k => st k ▸ g.closing k, fun k => st k ▸ g.opening k,
      fun k => st k ▸ g.still k, ?_, fun e => ?_, fun e => ?_, ?_⟩
    · by_cases hc : s.mode = .config
      · have none : t.closeFlights = 0 := by
          rw [State.closeFlights_congr hst, State.closeFlights_zero (g.config hc).2]
        rw [none]; exact Nat.zero_le _
      · rw [State.closeFlights_congr hst, limit hc]; exact g.paced
    · rw [hq]; simp only [st]; exact g.config (hm ▸ e)
    · rw [hm]; exact g.held (by rw [h] at e; exact e)
    · rw [h]; exact g.tagged
  inService := InServiceSafe.congr (by rw [h]) (by rw [h])
  map := map
  base _ := TripBase.congr (by rw [h]) (by rw [h])
  stands _ _ _ := Stands.congr (by rw [h]) (by rw [h])
  locks k _ _ g := by rw [h]; exact g

theorem doClearMap_keeps (s : State) : Keeps s s.doClearMap.1 := by
  unfold State.doClearMap
  split
  · exact .refl s
  · dsimp only
    unfold State.clearMap
    have cleared : Keeps s { s with
        map := [], sources := [], roles := Vector.replicate 51 resetRole, yardIx := none, tracker := s.tracker.discard } :=
      .of_tables rfl (fun _ => ⟨by simp, by simp [entriesOf], .nil, by simp, by simp [sourcesOf], by simp⟩) id fun _ => rfl
    dsimp only
    split
    · exact cleared
    · exact cleared.trans (channelsChanged_keeps _)

theorem doAppendMap_keeps (s : State) (es : List MapEntryWrite) : Keeps s (s.doAppendMap es).1 := by
  unfold State.doAppendMap
  split
  · exact .refl s
  · split
    · exact .refl s
    · dsimp only
      split
      · exact .refl s
      · next m srcs cleared h =>
        obtain ⟨ordered, length, pre⟩ := appendEntries_stored _ h
        have stored : Keeps s { s with
            map := m
            sources := s.sources ++ (srcs.drop s.sources.length).map fun a => newSource a s.now
            mapOverflow := bumpBy s.mapOverflow (es.length - (64 - s.map.length)) } := by
          refine .of_tables rfl (fun g => ?_) bumpBy_le fun _ => rfl
          obtain ⟨twice, pairs, captures, sources, few⟩ := ordered ⟨g.twice, g.pairs, g.captures, g.sources,
            by simpa using g.few⟩
          have addrs : (s.sources ++ (srcs.drop s.sources.length).map fun a => newSource a s.now).map (·.addr) = srcs := by
            obtain ⟨rest, rfl⟩ := pre
            have hl : s.sources.length = (s.sources.map (·.addr)).length := by simp
            rw [List.map_append, List.map_map, hl, List.drop_left]
            simp [Function.comp_def, newSource]
          have count := congrArg List.length addrs
          rw [List.length_map] at count
          refine ⟨?_, twice, pairs, captures, addrs.trans sources, count ▸ few⟩
          have := g.room
          rw [List.length_take] at length
          show m.length ≤ 64
          omega
        unfold State.appendMap
        dsimp only
        split
        · exact stored
        · exact stored.trans (channelsChanged_keeps _)

/-! ### WRITE CONTROL, WRITE HARMONIC, WRITE LINK (R107, R150, R197) -/

theorem doWriteControlSet_keeps (s : State) (i : SetId) (w : Option ControlSetWrite) :
    Keeps s (s.doWriteControlSet i w).1 := by
  unfold State.doWriteControlSet
  split
  · exact .refl s
  · next x =>
    have stored : Keeps s (s.storeSet i (clampedSet x)) := by cases i <;> exact .of_quiet rfl
    dsimp only
    unfold State.writeSet
    dsimp only
    split
    · exact stored.trans (modVc_keeps _ _)
    · exact stored

theorem doWriteControlPhases_keeps (s : State) (w : Option PhaseSet) : Keeps s (s.doWriteControlPhases w).1 := by
  unfold State.doWriteControlPhases
  split
  · exact .refl s
  · dsimp only
    unfold State.writePhases
    dsimp only
    split <;> exact .of_quiet rfl

theorem notices_keeps (ns : List Notice) (s : State) : Keeps s (ns.foldl State.notice s) := foldl_keeps notice_keeps ns s

theorem writeTable_keeps (s : State) (t : HarmonicTable) : Keeps s (s.writeTable t) := by
  refine Keeps.trans ?_ (notices_keeps s.clearedAlarms _)
  refine .of_calm rfl rfl rfl rfl rfl fun k => ?_
  have cleared : State.stage { s with
      table := t, alarms := Vector.replicate 3 ⟨t.orders.map fun _ => resetQuantity, resetQuantity⟩
      stages := s.stages.map fun a => { a with overCount := 0 } } k = { s.stage k with overCount := 0 } :=
    State.stage_map (f := fun a => { a with overCount := 0 }) rfl k
  rw [cleared]
  exact ⟨rfl, rfl, rfl, rfl, rfl, rfl, .inl rfl⟩

theorem doWriteHarmonic_keeps (s : State) (w : Option HarmonicWrite) : Keeps s (s.doWriteHarmonic w).1 := by
  unfold State.doWriteHarmonic
  split
  · exact .refl s
  · split
    · exact .refl s
    · exact writeTable_keeps s _

theorem doWriteLink_keeps (s : State) (w : Option LinkWrite) : Keeps s (s.doWriteLink w).1 := by
  unfold State.doWriteLink
  split
  · exact .refl s
  · split
    · exact .refl s
    · next l _ =>
      split
      · exact .refl s
      · next h =>
        have limit (hm : s.mode ≠ .config) : l.closeLimit = s.link.closeLimit := by
          by_contra e
          exact h ⟨hm, .inr e⟩
        have written : Keeps s (if l.nominal = s.link.nominal then State.restartWatchdog { s with link := l }
            else { State.restartWatchdog { s with link := l } with tracker := s.tracker.discard }) := by
          split <;> exact .of_tables rfl (.congr rfl rfl) id limit
        have gap {u : State} (g : Keeps s u) : Keeps s (if u.gapRunOut then u.selection else u) := by
          split
          · exact g.trans (selection_keeps _)
          · exact g
        exact gap written

end Sys2Proof.Machine
end

section
/-! Sample intake keeps the standing facts. -/

namespace Sys2Proof.Machine

theorem closeWindow_keeps (atLast : Bool) (s : State) (r : Role) : Keeps s (State.closeWindow atLast s r) := by
  unfold State.closeWindow
  split
  · exact .refl s
  · exact (modRole_keeps s r _).trans (handOver_keeps _ _ _)

theorem openRoleWindow_keeps (s : State) (r : Role) (w : WindowIx) : Keeps s (s.openRoleWindow r w) := by
  unfold State.openRoleWindow
  split
  · exact handOver_keeps _ _ _
  · exact modRole_keeps s r _

theorem storeFrame_keeps (s : State) (r : Role) (e : MapEntry) (f : SampleFrame) : Keeps s (s.storeFrame r e f) := by
  unfold State.storeFrame
  dsimp only
  split
  · exact (modRole_keeps s r _).trans (closeWindow_keeps _ _ _)
  · exact modRole_keeps s r _

theorem openByFrame_keeps (s : State) (r : Role) (src : Byte) (f : SampleFrame) : Keeps s (s.openByFrame r src f) := by
  have opened := openRoleWindow_keeps s r (windowOf f.counter)
  have stored (u : State) (h : Keeps s u) : Keeps s (match (u.role r).openWin with
      | none => u
      | some o =>
        match servingEntry u.map r o.by_ with
        | some e => if e.source = src then u.storeFrame r e f else u
        | none => u) := by
    split
    · exact h
    · split
      · split
        · exact h.trans (storeFrame_keeps _ _ _ _)
        · exact h
      · exact h
  unfold State.openByFrame
  dsimp only
  split
  · exact stored _ opened
  · split
    · exact .refl s
    · exact stored _ opened

theorem roleFrame_keeps (src : Byte) (f : SampleFrame) (s : State) (r : Role) : Keeps s (State.roleFrame src f s r) := by
  unfold State.roleFrame
  split
  · exact openByFrame_keeps _ _ _ _
  · split
    · exact .refl s
    · split
      · exact .refl s
      · split
        · exact storeFrame_keeps _ _ _ _
        · split
          · exact (closeWindow_keeps _ _ _).trans (openByFrame_keeps _ _ _ _)
          · exact .refl s

theorem yardFrame_keeps (s : State) (src : Byte) (w : WindowIx) : Keeps s (s.yardFrame src w) := by
  have examine (u : State) (r : Role) : Keeps u (State.examineRole w u r) := by
    unfold State.examineRole
    split
    · exact openRoleWindow_keeps _ _ _
    · exact .refl u
  have advanced : Keeps s ((mappedRoles s.map).foldl (State.examineRole w) { s with yardIx := some (w, s.now) }) :=
    Keeps.trans (t := { s with yardIx := some (w, s.now) }) (.of_quiet rfl) (foldl_keeps examine _ _)
  have moved (b : Bool) : Keeps s (if b = true then
      (mappedRoles s.map).foldl (State.examineRole w) { s with yardIx := some (w, s.now) } else s) := by
    split
    · exact advanced
    · exact .refl s
  exact moved _

/-- A change of source records that keeps their addresses. -/
theorem modSource_keeps {s : State} {a : Byte} {f : Source → Source} (h : ∀ x ∈ s.sources, x.addr = a → (f x).addr = a) :
    Keeps s (s.modSource a f) := by
  refine .of_tables rfl (.congr rfl ?_) id fun _ => rfl
  show (s.sources.map fun x => if x.addr = a then f x else x).map (·.addr) = s.sources.map (·.addr)
  rw [List.map_map]
  refine List.map_congr_left fun x hx => ?_
  dsimp only [Function.comp]
  split
  · next e => rw [h x hx e, e]
  · rfl

theorem sourceFrame_keeps (s : State) (x : Source) (f : SampleFrame) : Keeps s (s.sourceFrame x f) := by
  have modified : Keeps s (s.modSource x.addr fun _ => healSource (trackSource x f (qualifies s.map x.addr f) s.now)) := by
    refine modSource_keeps fun _ _ _ => ?_
    unfold healSource
    split <;> rfl
  unfold State.sourceFrame
  dsimp only
  split
  · exact modified
  · exact modified.trans (notice_keeps _ _)

theorem sampleFrame_keeps (s : State) (src : Byte) (payload : List Byte) : Keeps s (s.sampleFrame src payload) := by
  unfold State.sampleFrame
  split
  · exact .refl s
  · split
    · exact .of_ports rfl (ChainSafe.congr rfl rfl rfl rfl) fun h => { h with malformedSamples := bump_le h.malformedSamples }
    · split
      · exact ((sourceFrame_keeps s _ _).trans (foldl_keeps (roleFrame_keeps _ _) _ _)).trans (yardFrame_keeps _ _ _)
      · exact .of_ports rfl (ChainSafe.congr rfl rfl rfl rfl) fun h => { h with lateSamples := bump_le h.lateSamples }

theorem loseSource_keeps (s : State) (a : Byte) : Keeps s (s.loseSource a) := by
  unfold State.loseSource
  split
  · exact .refl s
  · split
    · have lost : Keeps s (s.modSource a fun y =>
          { y with status := .lost, streak := 0, last := none, window := none, qualified := 0 }) :=
        modSource_keeps fun _ _ e => e
      exact (lost.trans (notice_keeps _ _)).trans (foldl_keeps (closeWindow_keeps false) _ _)
    · exact .refl s

theorem yardTimeout_keeps (s : State) : Keeps s s.yardTimeout := by
  unfold State.yardTimeout
  split
  · split
    · exact .of_quiet rfl
    · exact .refl s
  · exact .refl s

theorem handedTimeout_keeps (s : State) (r : Role) : Keeps s (s.handedTimeout r) := by
  unfold State.handedTimeout
  split
  · split
    · exact modRole_keeps s r _
    · exact .refl s
  · exact .refl s

end Sys2Proof.Machine
end

section
/-! The ports keep the standing facts: the receive store, the transit slots, the arbiters and the link states. -/

namespace Sys2Proof.Machine

/-- What a change of a port may do: keep to its capacities, to nothing while DOWN, to its link state, to an empty insert queue,
and to the maximum of its counters. -/
structure PortState.Steps (q r : PortState) : Prop where
  slots : q.buf.length ≤ 8 → r.buf.length ≤ 8
  queue : r.ins.length ≤ q.ins.length
  down : q.up = false → q.rx = .idle ∧ q.buf = [] ∧ q.ins = [] ∧ q.tx = .idle →
    r.rx = .idle ∧ r.buf = [] ∧ r.ins = [] ∧ r.tx = .idle
  up : r.up = q.up
  counted : q.ctr.Within → r.ctr.Within

theorem PortState.Steps.safe {q r : PortState} (h : q.Steps r) {n : Nat} (g : PortSafe q n) : PortSafe r n :=
  ⟨h.slots g.slots, h.queue.trans g.queue, fun e => h.down (h.up ▸ e) (g.down (h.up ▸ e))⟩

theorem PortState.Steps.empty {q r : PortState} (h : q.Steps r) (e : q.ins = []) : r.ins = [] :=
  List.eq_nil_of_length_eq_zero (Nat.le_zero.1 (by simpa [e] using h.queue))

/-- The ports and the counter of free values change, the stage records and the link states do not. -/
structure Wired (s t : State) : Prop where
  keeps : Keeps s t
  stages : t.stages = s.stages
  up : ∀ p, (t.port p).up = (s.port p).up
  held : t.held = s.held

theorem Wired.refl (s : State) : Wired s s := ⟨.refl s, rfl, fun _ => rfl, rfl⟩

theorem Wired.trans {s t u : State} (h : Wired s t) (g : Wired t u) : Wired s u :=
  ⟨h.keeps.trans g.keeps, g.stages.trans h.stages, fun p => (g.up p).trans (h.up p), g.held.trans h.held⟩

theorem modPort_wired {s : State} {p : Port} {f : PortState → PortState} (h : (s.port p).Steps (f (s.port p))) :
    Wired s (s.modPort p f) := by
  cases p with
  | S =>
    refine ⟨.of_ports rfl (fun g => ⟨h.safe g.portS, g.portF, fun e => ⟨h.up.trans (g.held e).1, (g.held e).2⟩,
      fun e => ⟨h.empty (g.forwarding e).1, (g.forwarding e).2⟩⟩) fun g => { g with portS := h.counted g.portS }, rfl,
      fun p => ?_, rfl⟩
    cases p
    · exact h.up
    · rfl
  | F =>
    refine ⟨.of_ports rfl (fun g => ⟨g.portS, h.safe g.portF, fun e => ⟨(g.held e).1, h.up.trans (g.held e).2⟩,
      fun e => ⟨(g.forwarding e).1, h.empty (g.forwarding e).2⟩⟩) fun g => { g with portF := h.counted g.portF }, rfl,
      fun p => ?_, rfl⟩
    cases p
    · rfl
    · exact h.up

/-- A counter of a port is raised. -/
theorem count_wired {s : State} {p : Port} {f : PortCounters → PortCounters} (h : (s.port p).ctr.Within → (f (s.port p).ctr).Within) :
    Wired s (s.count p f) :=
  modPort_wired ⟨id, le_refl _, fun _ g => g, rfl, h⟩

/-- The receive store of a port that is UP changes; that of any port is emptied. -/
theorem setRx_wired {s : State} {p : Port} {r : Rx} (h : (s.port p).up = true ∨ r = .idle) : Wired s (s.setRx p r) := by
  refine modPort_wired ⟨id, le_refl _, fun e g => ?_, rfl, id⟩
  rcases h with h | rfl
  · rw [h] at e; cases e
  · exact ⟨rfl, g.2⟩

/-! ### Receiving (R1, R4, R8) -/

theorem takeSlot_wired {s : State} {p : Port} (h : (s.port p).up = true) (f : RxFrame) (b : Byte) :
    Wired s (s.takeSlot p f b) := by
  unfold State.takeSlot
  dsimp only
  have received (g : RxFrame) := setRx_wired (s := s) (p := p) (r := .receiving g) (.inl h)
  split
  · exact received _
  · split
    · exact (received _).trans (count_wired fun g => { g with linkDiscards := bump_le g.linkDiscards })
    · next up =>
      split
      · exact (received _).trans (count_wired fun g => { g with transitFull := bump_le g.transitFull })
      · next full =>
        refine (received _).trans (modPort_wired ⟨fun _ => ?_, le_refl _, fun e => ?_, rfl, id⟩)
        · rw [State.setRx, State.modPort_other]
          simp only [List.length_append, List.length_singleton]
          omega
        · rw [State.setRx, State.modPort_other] at e
          simp [e] at up

theorem abandonArriving_wired (s : State) (o : Port) (upTo : Nat → Nat → Nat) : Wired s (s.abandonArriving o upTo) := by
  have drop (q : PortState) : q.buf.length ≤ 8 → q.buf.dropLast.length ≤ 8 := by simp; omega
  unfold State.abandonArriving
  dsimp only
  split
  · refine Wired.trans (t := { s with fresh := s.fresh + 1 }) ⟨.of_quiet rfl, rfl, fun p => by cases p <;> rfl, rfl⟩
      (modPort_wired ⟨drop _, le_refl _, fun _ ⟨hr, hb, hi, _⟩ => ⟨hr, ?_, hi, rfl⟩, rfl,
        fun g => { g with poisoned := bump_le g.poisoned }⟩)
    show List.dropLast _ = []
    rw [hb]; rfl
  · refine modPort_wired ⟨drop _, le_refl _, fun _ ⟨hr, hb, hi, ht⟩ => ⟨hr, ?_, hi, ht⟩, rfl, id⟩
    show List.dropLast _ = []
    rw [hb]; rfl

theorem badFrame_wired (s : State) (p : Port) (f : RxFrame) (upTo : Nat → Nat → Nat) : Wired s (s.badFrame p f upTo) := by
  have counted : Wired s (s.count p fun c => { c with checkFailures := bump c.checkFailures }) :=
    count_wired fun g => { g with checkFailures := bump_le g.checkFailures }
  unfold State.badFrame
  dsimp only
  split
  · exact counted.trans (abandonArriving_wired _ _ _)
  · exact counted

/-- The newest slot of a buffer changes. -/
theorem modLast_wired (s : State) (o : Port) (f : TransitSlot → TransitSlot) :
    Wired s (s.modPort o fun q => { q with buf := modLast f q.buf }) := by
  refine modPort_wired ⟨by simp, le_refl _, fun _ ⟨hr, hb, hi, ht⟩ => ⟨hr, ?_, hi, ht⟩, rfl, id⟩
  show modLast f _ = []
  rw [hb]; rfl

theorem laterByte_wired {s : State} {p : Port} (h : (s.port p).up = true) (f : RxFrame) (b : Byte) :
    Wired s (s.laterByte p f b) := by
  unfold State.laterByte
  split
  · have bad := badFrame_wired s p f (poisonEnd s.fresh)
    exact bad.trans (setRx_wired (.inl ((bad.up p).trans h)))
  · dsimp only
    split
    · exact (setRx_wired (.inl h)).trans (modLast_wired _ _ _)
    · exact setRx_wired (.inl h)

theorem rxByte_wired {s : State} {p : Port} (h : (s.port p).up = true) (b : Byte) : Wired s (State.rxByte p s b) := by
  unfold State.rxByte
  split
  · exact setRx_wired (.inl h)
  · exact .refl s
  · split
    · exact takeSlot_wired h _ _
    · exact laterByte_wired h _ _

theorem rxBytes_wired (p : Port) (bs : List Byte) : ∀ {s : State}, (s.port p).up = true → Wired s (s.rxBytes p bs) := by
  induction bs with
  | nil => exact fun _ => .refl _
  | cons b bs ih =>
    intro s h
    have first := rxByte_wired h b
    exact first.trans (ih ((first.up p).trans h))

/-! ### Sending (R15, R16) -/

theorem finish_steps (q : PortState) : q.Steps q.finish := by
  unfold PortState.finish
  split
  · exact ⟨id, le_refl _, fun _ => id, rfl, id⟩
  · exact ⟨id, le_refl _, fun _ ⟨hr, hb, hi, _⟩ => ⟨hr, hb, hi, rfl⟩, rfl, id⟩
  · exact ⟨id, le_refl _, fun _ ⟨hr, hb, hi, _⟩ => ⟨hr, hb, hi, rfl⟩, rfl, id⟩
  · next hb =>
    refine ⟨fun g => ?_, le_refl _, fun _ ⟨_, hb', _⟩ => absurd (hb.symm.trans hb') nofun, rfl, id⟩
    rw [hb] at g; simp only [List.length_cons] at g; dsimp only; omega

theorem beginTransit_steps {q : PortState} (h : q.up = true) : q.Steps q.beginTransit :=
  ⟨by simp [PortState.beginTransit], le_refl _, fun e => absurd (h.symm.trans e) (by simp), rfl, id⟩

theorem beginInsert_steps {q : PortState} (h : q.up = true) : q.Steps q.beginInsert := by
  unfold PortState.beginInsert
  split
  · exact ⟨id, le_refl _, fun _ => id, rfl, id⟩
  · next hq => exact ⟨id, by rw [hq]; simp, fun e => absurd (h.symm.trans e) (by simp), rfl, id⟩

theorem arbitrate_keeps {s : State} {p : Port} (h : (s.port p).up = true) : Keeps s (s.arbitrate p) := by
  unfold State.arbitrate
  split
  · exact .refl s
  · exact (modPort_wired (beginTransit_steps h)).keeps
  · have begun := (modPort_wired (beginInsert_steps h)).keeps
    dsimp only
    split
    · exact begun.trans (selection_keeps _)
    · exact begun

theorem byteTime_steps (q : PortState) : q.Steps q.byteTime := by
  unfold PortState.byteTime
  split
  · exact ⟨id, le_refl _, fun _ => id, rfl, id⟩
  · next ht => exact ⟨id, le_refl _, fun _ ⟨_, _, _, h⟩ => absurd (ht.symm.trans h) nofun, rfl, id⟩
  · next ht => exact ⟨id, le_refl _, fun _ ⟨_, _, _, h⟩ => absurd (ht.symm.trans h) nofun, rfl, id⟩

theorem byteTime_keeps (s : State) : Keeps s s.byteTime := by
  unfold State.byteTime
  split
  · exact .refl s
  · exact ((modPort_wired (p := .S) (f := PortState.byteTime) (byteTime_steps _)).trans
      (modPort_wired (p := .F) (f := PortState.byteTime) (byteTime_steps _))).keeps

/-! ### Link states (R12, R17) -/

theorem loseInput_wired (s : State) (p : Port) : Wired s (s.loseInput p) := by
  unfold State.loseInput
  split
  · exact (badFrame_wired s p _ _).trans (setRx_wired (.inr rfl))
  · exact setRx_wired (.inr rfl)
  · exact setRx_wired (.inr rfl)

theorem loseInput_idle (s : State) (p : Port) : ((s.loseInput p).port p).rx = .idle := by
  unfold State.loseInput State.setRx
  split <;> simp

/-- The output of a port with an empty receive store stops. -/
theorem downPort_keeps {s : State} {p : Port} (h : (s.port p).rx = .idle) : Keeps s (s.modPort p downPort) := by
  have safe (n : Nat) : PortSafe (downPort (s.port p)) n := ⟨by simp [downPort], by simp [downPort], fun _ => ⟨h, rfl, rfl, rfl⟩⟩
  cases p with
  | S =>
    exact .of_ports rfl (fun g => ⟨safe 16, g.portF, fun e => ⟨rfl, (g.held e).2⟩, fun e => ⟨rfl, (g.forwarding e).2⟩⟩)
      fun g => { g with portS := { g.portS with linkDiscards := bumpBy_le g.portS.linkDiscards } }
  | F =>
    exact .of_ports rfl (fun g => ⟨g.portS, safe 8, fun e => ⟨(g.held e).1, rfl⟩, fun e => ⟨(g.forwarding e).1, rfl⟩⟩)
      fun g => { g with portF := { g.portF with linkDiscards := bumpBy_le g.portF.linkDiscards } }

theorem countUpDrop_keeps (s : State) (k : InsertKind) : Keeps s (s.countUpDrop k) := by
  cases k with
  | command => exact .refl s
  | reply => exact .of_ports rfl (ChainSafe.congr rfl rfl rfl rfl) fun g => { g with repliesDropped := bump_le g.repliesDropped }
  | notice => exact .of_ports rfl (ChainSafe.congr rfl rfl rfl rfl) fun g => { g with noticesDropped := bump_le g.noticesDropped }

theorem countQueue_keeps (s : State) (p : Port) (q : List InsertFrame) : Keeps s (s.countQueue p q) := by
  cases p with
  | S => exact foldl_keeps (fun s (f : InsertFrame) => countUpDrop_keeps s f.kind) q s
  | F =>
    exact (count_wired (p := .F) (f := fun c => { c with linkDiscards := bumpBy c.linkDiscards q.length })
      fun g => { g with linkDiscards := bumpBy_le g.linkDiscards }).keeps

theorem stopOutput_keeps {s : State} {p : Port} (h : (s.port p).rx = .idle) : Keeps s (s.stopOutput p) := by
  refine ((downPort_keeps h).trans (countQueue_keeps _ p _)).trans (modPort_wired ⟨id, le_refl _, ?_, rfl, id⟩).keeps
  rintro - ⟨hr, g⟩
  exact ⟨by rw [hr]; rfl, g⟩

theorem linkUp_keeps (s : State) (p : Port) : Keeps s (s.linkUp p) := by
  unfold State.linkUp
  split
  · exact .refl s
  next h =>
    have hh : s.held = false := by
      simp only [Bool.or_eq_true, not_or, Bool.not_eq_true] at h; exact h.1
    have safe {q : PortState} {n : Nat} (g : PortSafe q n) : PortSafe { q with up := true, rx := .idle } n :=
      ⟨g.slots, g.queue, nofun⟩
    have never {P : Prop} (e : s.held = true) : P := absurd (hh.symm.trans e) Bool.false_ne_true
    cases p with
    | S => exact .of_ports rfl (fun g => ⟨safe g.portS, g.portF, never, g.forwarding⟩) fun g => ⟨g.portS, g.portF, g.preemptions,
        g.repliesDropped, g.noticesDropped, g.malformedSamples, g.lateSamples, g.mapOverflow, g.malformedPositions, g.missed⟩
    | F => exact .of_ports rfl (fun g => ⟨g.portS, safe g.portF, never, g.forwarding⟩) fun g => ⟨g.portS, g.portF, g.preemptions,
        g.repliesDropped, g.noticesDropped, g.malformedSamples, g.lateSamples, g.mapOverflow, g.malformedPositions, g.missed⟩

end Sys2Proof.Machine
end

section
/-! The resets, start-up, management and the line events keep the standing facts. -/

namespace Sys2Proof.Machine

/-! ### Resets and start-up (R183 to R185) -/

/-- A cleared port is DOWN and empty. -/
theorem resetPort_safe (line : List SentCopy) (n : Nat) : PortSafe { resetPort with line := line } n :=
  ⟨Nat.zero_le _, Nat.zero_le _, fun _ => ⟨rfl, rfl, rfl, rfl⟩⟩

theorem resetPort_within (line : List SentCopy) : ({ resetPort with line := line } : PortState).ctr.Within :=
  ⟨Nat.zero_le _, Nat.zero_le _, Nat.zero_le _, Nat.zero_le _, Nat.zero_le _, Nat.zero_le _⟩

theorem State.reset_stage (k : StageIx) : State.reset.stage k = resetStage := by simp [State.stage, State.reset]

/-- The live state that every reset clears to. -/
structure Cleared (t : State) : Prop where
  held : t.held = true
  mode : t.mode = .config
  ports : (∃ l, t.portS = { resetPort with line := l }) ∧ ∃ l, t.portF = { resetPort with line := l }
  inService : t.inService = []
  queue : t.queue = []
  tag : t.tag = 1
  counters : t.preemptions = 0 ∧ t.repliesDropped = 0 ∧ t.noticesDropped = 0 ∧ t.malformedSamples = 0 ∧ t.lateSamples = 0
    ∧ t.mapOverflow = 0 ∧ t.malformedPositions = 0 ∧ t.cap.missed = 0
  capture : t.cap.status = .disarmed ∧ t.cap.store = []
  stage : ∀ k, (t.stage k).Flies ∧ (t.stage k).Trips ∧ (t.stage k).inFlight = none ∧ (t.stage k).lockoutPending = false
    ∧ (t.stage k).reported = none

theorem Cleared.chain {t : State} (h : Cleared t) : ChainSafe t := by
  obtain ⟨⟨l, hS⟩, ⟨l', hF⟩⟩ := h.ports
  exact ⟨hS ▸ resetPort_safe l 16, hF ▸ resetPort_safe l' 8, fun _ => ⟨by rw [hS]; rfl, by rw [hF]; rfl⟩,
    fun _ => ⟨by rw [hS]; rfl, by rw [hF]; rfl⟩⟩

theorem Cleared.inServiceSafe {t : State} (h : Cleared t) : InServiceSafe t :=
  ⟨h.inService ▸ List.nodup_nil, fun k => by rw [h.inService, (h.stage k).2.2.2.2]; simp⟩

theorem Cleared.countersSafe {t : State} (h : Cleared t) : CountersSafe t := by
  obtain ⟨⟨l, hS⟩, ⟨l', hF⟩⟩ := h.ports
  obtain ⟨a, b, c, d, e, f, g, i⟩ := h.counters
  refine (countersSafe_iff t).2 ⟨hS ▸ resetPort_within l, hF ▸ resetPort_within l', ?_, ?_, ?_, ?_, ?_, ?_, ?_, ?_⟩
  all_goals simp [a, b, c, d, e, f, g, i]

theorem Cleared.switching {t : State} (h : Cleared t) : SwitchingSafe t := by
  have grounded k : (t.stage k).inFlight = none := (h.stage k).2.2.1
  exact ⟨h.queue ▸ .nil, by simp [h.queue], fun k => (h.stage k).1.closing, fun k => (h.stage k).1.opening,
    fun k => (h.stage k).1.still, by rw [State.closeFlights_zero grounded]; exact Nat.zero_le _, fun _ => ⟨h.queue, grounded⟩,
    fun _ => h.mode, by rw [h.tag]; decide⟩

theorem Cleared.base {t : State} (h : Cleared t) : TripBase t :=
  ⟨fun k => (h.stage k).2.1, by simp [h.queue], by simp [h.queue]⟩

theorem Cleared.keeps {s t : State} (h : Cleared t) (map : MapSafe s → MapSafe t)
    (pre : s.cap.preCount ≤ 15 → t.cap.preCount ≤ 15) : KeepsSafe s t where
  chain _ := h.chain
  inService _ := h.inServiceSafe
  map := map
  capture g := ⟨pre g.count, by rw [h.capture.2]; exact Nat.zero_le _, fun _ => by rw [h.capture.2]; exact Nat.zero_le _,
    fun e => by rw [h.capture.1] at e; rcases e with e | e <;> cases e⟩
  counters _ := h.countersSafe
  switching _ := h.switching
  base _ _ := h.base
  stands k _ _ _ e := by rw [(h.stage k).2.2.2.1] at e; cases e

/-- A record with nothing in flight and no lockout, off and absent, or awaiting its position. -/
theorem restartStage_clear (a : Stage) : (restartStage a).Flies ∧ (restartStage a).Trips ∧ (restartStage a).inFlight = none
    ∧ (restartStage a).lockoutPending = false ∧ (restartStage a).reported = none := by
  have kept : (restartStage a).inFlight = none ∧ (restartStage a).lockoutPending = false ∧ (restartStage a).reported = none := by
    unfold restartStage; dsimp only; split <;> exact ⟨rfl, rfl, rfl⟩
  obtain ⟨hf, hp, hr⟩ := kept
  refine ⟨?_, ⟨?_, fun _ e => absurd (hr.symm.trans e) nofun, ?_, fun e => absurd (hp.symm.trans e) nofun⟩, hf, hp, hr⟩
  · unfold restartStage at hf ⊢
    dsimp only at hf ⊢
    split <;> exact .of_grounded rfl nofun nofun
  · unfold restartStage
    dsimp only
    split
    · next h => simp [h]
    · next h => simpa [resetStage] using h
  · unfold restartStage
    dsimp only
    split
    · exact fun _ => rfl
    · exact nofun

theorem enterRestart_cleared (s : State) : Cleared s.enterRestart := by
  refine ⟨rfl, rfl, ⟨⟨_, rfl⟩, ⟨_, rfl⟩⟩, rfl, rfl, rfl, ⟨rfl, rfl, rfl, rfl, rfl, rfl, rfl, rfl⟩, ⟨rfl, rfl⟩, fun k => ?_⟩
  rw [State.stage_map (s := s) (t := s.enterRestart) (f := restartStage) rfl]
  exact restartStage_clear _

theorem enterRestart_keeps (s : State) : KeepsSafe s s.enterRestart :=
  (enterRestart_cleared s).keeps (.congr rfl (by simp [State.enterRestart, newSource, Function.comp_def])) id

theorem clearAll_cleared (s : State) (c : ResetKind) : Cleared (s.clearAll c) := by
  refine ⟨rfl, rfl, ⟨⟨_, rfl⟩, ⟨_, rfl⟩⟩, rfl, rfl, rfl, ⟨rfl, rfl, rfl, rfl, rfl, rfl, rfl, rfl⟩, ⟨rfl, rfl⟩, fun k => ?_⟩
  rw [State.stage_congr (s := State.reset) (t := s.clearAll c) rfl, State.reset_stage]
  exact restartStage_clear resetStage

theorem emptyMap_safe {t : State} (hm : t.map = []) (hs : t.sources = []) : MapSafe t :=
  ⟨by simp [hm], by simp [hm, entriesOf], hm ▸ .nil, by simp [hm], by simp [hm, hs, sourcesOf], by simp [hs]⟩

theorem clearAll_keeps (s : State) (c : ResetKind) : KeepsSafe s (s.clearAll c) :=
  (clearAll_cleared s c).keeps (fun _ => emptyMap_safe rfl rfl) fun _ => (by decide : 4 ≤ 15)

theorem reset_cleared : Cleared State.reset := by
  refine ⟨rfl, rfl, ⟨⟨[], rfl⟩, ⟨[], rfl⟩⟩, rfl, rfl, rfl, ⟨rfl, rfl, rfl, rfl, rfl, rfl, rfl, rfl⟩, ⟨rfl, rfl⟩, fun k => ?_⟩
  rw [State.reset_stage]
  exact restartStage_clear resetStage

/-- The release from reset, before its notices. -/
theorem startUp_released {s : State} (hh : s.held = true) (pins : Byte) (c : ClockSource) (upS upF : Bool) :
    Keeps s { s with
      held := false, addr := pins, now := 0, clock := c, recovery := 0, portS := { s.portS with up := upS }
      portF := { s.portF with up := upF }, mode := .config } := by
  have config (g : SwitchingSafe s) : s.mode = .config := g.held hh
  refine ⟨⟨⟨fun g => ?_, .congr rfl rfl, .congr rfl rfl, .congr rfl, fun g => ?_⟩, fun g => ?_,
    fun _ => .congr rfl rfl, fun _ _ _ => .congr rfl rfl⟩, fun _ _ _ => id⟩
  · obtain ⟨downS, downF⟩ := g.held hh
    obtain ⟨rS, bS, iS, tS⟩ := g.portS.down downS
    obtain ⟨rF, bF, iF, tF⟩ := g.portF.down downF
    exact ⟨⟨g.portS.slots, g.portS.queue, fun _ => ⟨rS, bS, iS, tS⟩⟩, ⟨g.portF.slots, g.portF.queue, fun _ => ⟨rF, bF, iF, tF⟩⟩,
      nofun, fun _ => ⟨iS, iF⟩⟩
  · exact (countersSafe_iff _).2 { (countersSafe_iff s).1 g with
      portS := ((countersSafe_iff s).1 g).portS, portF := ((countersSafe_iff s).1 g).portF }
  · exact ⟨g.single, g.closeNormal, g.closing, g.opening, g.still, g.paced, fun _ => g.config (config g), nofun, g.tagged⟩

theorem startUp_keeps (s : State) (pins : Byte) (reference upS upF : Bool) : Keeps s (s.startUp pins reference upS upF) := by
  unfold State.startUp
  split
  · exact .refl s
  · next hh =>
    have started {u : State} (c : ResetKind) (h : Keeps s u) : Keeps s (if reference = true then
        u.restartWatchdog.notice (.start c pins) else (u.restartWatchdog.notice (.start c pins)).notice (.clock .internal)) := by
      split
      · exact (h.trans (restartWatchdog_keeps u)).trans (notice_keeps _ _)
      · exact ((h.trans (restartWatchdog_keeps u)).trans (notice_keeps _ _)).trans (notice_keeps _ _)
    exact started _ (startUp_released (by simpa using hh) pins _ upS upF)

/-! ### Requests (R188, R198) -/

/-- An operation keeps every standing fact and every lockout, or ends in a reset period. -/
def KeepsOrResets (s t : State) : Prop := Keeps s t ∨ (KeepsSafe s t ∧ t.held = true)

/-- It may also end a lockout, but none that is pending other than in LOCKED_OUT. -/
def YieldsOrResets (s t : State) : Prop := Yields s t ∨ (KeepsSafe s t ∧ t.held = true)

theorem KeepsOrResets.yields {s t : State} (h : KeepsOrResets s t) : YieldsOrResets s t := h.imp_left Keeps.yields

theorem YieldsOrResets.safe {s t : State} (h : YieldsOrResets s t) : KeepsSafe s t := h.elim (·.toKeepsSafe) (·.1)

theorem Keeps.then {s t u : State} (h : Keeps s t) (g : KeepsOrResets t u) : KeepsOrResets s u :=
  g.imp h.trans fun ⟨g, e⟩ => ⟨h.toKeepsSafe.trans g, e⟩

theorem Wired.then {s t u : State} (h : Wired s t) (g : YieldsOrResets t u) : YieldsOrResets s u :=
  g.imp (fun g => g.after h.keeps h.stages) fun ⟨g, e⟩ => ⟨h.keeps.toKeepsSafe.trans g, e⟩

/-- The request is answered. -/
theorem answer_keeps {s : State} {f : State → State × Answer} (h : Keeps s (f s).1) (rq : Requester) (kind : Byte) :
    Keeps s (s.answer rq kind f) := h.trans (reply_keeps _ _ _ _ _)

theorem request_keeps {s : State} {f : State → State × Answer} (h : s.held = false → Keeps s (f s).1) (rq : Requester) (kind : Byte) :
    Keeps s (s.request rq kind f) := by
  unfold State.request
  split
  · exact .refl s
  · next hn => exact answer_keeps (h (by simp only [Bool.or_eq_true, not_or, Bool.not_eq_true] at hn; exact hn.1)) rq kind

theorem restartRequest_ends (s : State) (rq : Requester) : KeepsOrResets s (s.restartRequest rq) := by
  unfold State.restartRequest
  split
  · exact .inl (reply_keeps _ _ _ _ _)
  · have replied : Keeps s (State.reply { s with restartPending := true } rq 0x44 true (doneWith [])) :=
      Keeps.trans (t := { s with restartPending := true }) (.of_quiet rfl) (reply_keeps _ _ _ _ _)
    dsimp only
    split
    · exact .inl replied
    · exact .inr ⟨replied.toKeepsSafe.trans (enterRestart_keeps _), rfl⟩

theorem clearCounters_keeps (s : State) : Keeps s s.clearCounters := by
  have zero : (⟨0, 0, 0, 0, 0, 0⟩ : PortCounters).Within :=
    ⟨Nat.zero_le _, Nat.zero_le _, Nat.zero_le _, Nat.zero_le _, Nat.zero_le _, Nat.zero_le _⟩
  have safe {q : PortState} {n : Nat} (g : PortSafe q n) : PortSafe (clearedPort q) n := ⟨g.slots, g.queue, g.down⟩
  refine ⟨⟨⟨fun g => ⟨safe g.portS, safe g.portF, g.held, g.forwarding⟩, .congr rfl rfl, .congr rfl rfl,
    fun g => ⟨g.count, g.record, g.ring, g.header⟩, fun _ => (countersSafe_iff _).2 ⟨zero, zero, ?_, ?_, ?_, ?_, ?_, ?_, ?_, ?_⟩⟩,
    .congr rfl rfl rfl rfl rfl rfl, fun _ => .congr rfl rfl, fun _ _ _ => .congr rfl rfl⟩, fun _ _ _ => id⟩ <;>
    exact Nat.zero_le _

end Sys2Proof.Machine
end

section
/-! Management, consumption and the line events keep the standing facts. -/

namespace Sys2Proof.Machine

/-! ### The request decoder (R188) -/

/-- What carrying a request out does, whatever it answers. -/
def Acts (s : State) (f : RequestAct) : Prop := Yields s (f s).1

theorem Acts.of_keeps {s : State} {f : RequestAct} (h : Keeps s (f s).1) : Acts s f := h.yields

/-- A request that only answers. -/
theorem Acts.of_answer {s : State} {f : RequestAct} (h : (f s).1 = s) : Acts s f := by
  rw [Acts, h]; exact (Keeps.refl s).yields

theorem Acts.ite {s : State} {c : Prop} [Decidable c] {f g : RequestAct} (hf : Acts s f) (hg : Acts s g) :
    Acts s (if c then f else g) := by
  split
  · exact hf
  · exact hg

theorem Acts.refuse (s : State) (r : Reason) : Acts s (refuse r) := .of_answer rfl

theorem Acts.sized {s : State} {f : RequestAct} (n : Nat) (ps : List Byte) (h : Acts s f) : Acts s (sized n ps f) :=
  .ite h (.refuse s _)

theorem readStatusAct_acts (s : State) (ps : List Byte) : Acts s (readStatusAct ps) := by
  have stages (b : Byte) : Acts s (State.doStatusStages b) := .of_answer (by unfold State.doStatusStages; split <;> rfl)
  exact .ite (.refuse s _) <| .ite (.sized _ _ (.of_answer rfl)) <| .ite (.sized _ _ (.of_answer rfl)) <|
    .ite (.sized _ _ (stages _)) <| .ite (.sized _ _ (.of_answer rfl)) <| .ite (.sized _ _ (.of_answer rfl)) (.refuse s _)

theorem doReadMeasurements_state (s : State) (b : Byte) (cs : List Byte) : (s.doReadMeasurements b cs).1 = s := by
  unfold State.doReadMeasurements; repeat' split
  all_goals rfl

theorem writeControlAct_acts (s : State) (ps : List Byte) : Acts s (writeControlAct ps) := by
  have set (i : SetId) : Acts s (writeSetAct i ps) :=
    .ite (.of_keeps (doWriteControlSet_keeps s i _)) (.sized _ _ (.of_keeps (doWriteControlSet_keeps s i _)))
  exact .ite (.refuse s _) <| .ite (set .A) <| .ite (set .B) <| .ite
    (.ite (.of_keeps (doWriteControlPhases_keeps s _)) (.sized _ _ (.of_keeps (doWriteControlPhases_keeps s _)))) (.refuse s _)

theorem doReadStage_state (s : State) (b : Byte) : (s.doReadStage b).1 = s := by
  unfold State.doReadStage; split <;> rfl

theorem doReadMap_state (s : State) (b : Byte) : (s.doReadMap b).1 = s := by
  unfold State.doReadMap; split <;> rfl

theorem doReadCapture_state (s : State) (w c : Byte) : (s.doReadCapture w c).1 = s := by
  unfold State.doReadCapture
  split
  · rfl
  · split <;> rfl

theorem requestAct_acts {s : State} (hh : s.held = false) (kind : Byte) (ps : List Byte) : Acts s (requestAct kind ps) := by
  have keeps {f : RequestAct} (n : Nat) (h : Keeps s (f s).1) : Acts s (sized n ps f) := .sized n ps (.of_keeps h)
  have answers {f : RequestAct} (n : Nat) (h : (f s).1 = s) : Acts s (sized n ps f) := .sized n ps (.of_answer h)
  have writeStage : Acts s (writeStageAct ps) :=
    .ite (.refuse s _) (.ite (.of_keeps (doWriteStage_keeps s _ _)) (.of_answer rfl))
  exact .ite (readStatusAct_acts s ps)
    <| .ite (.ite (.refuse s _) (answers _ (doReadMeasurements_state s _ _)))
    <| .ite (answers _ rfl)
    <| .ite (keeps _ (clearCounters_keeps s))
    <| .ite (answers _ (doReadStage_state s _))
    <| .ite writeStage
    <| .ite (keeps _ (doBlock_keeps s true _))
    <| .ite (keeps _ (doBlock_keeps s false _))
    <| .ite (.sized _ _ (doRelease_yields s _))
    <| .ite (keeps _ (doManualOpen_keeps s _))
    <| .ite (keeps _ (doManualClose_keeps s _))
    <| .ite (keeps _ (doCaptureBalance_keeps s _))
    <| .ite (keeps _ (doClearMap_keeps s))
    <| .ite (.ite (.refuse s _) (keeps _ (doAppendMap_keeps s _)))
    <| .ite (answers _ (doReadMap_state s _))
    <| .ite (writeControlAct_acts s ps)
    <| .ite (.ite (.of_keeps (doWriteHarmonic_keeps s _)) (keeps _ (doWriteHarmonic_keeps s _)))
    <| .ite (.ite (.of_keeps (doWriteLink_keeps s _)) (keeps _ (doWriteLink_keeps s _)))
    <| .ite (keeps _ (doEnterService_keeps hh))
    <| .ite (keeps _ (doEnterConfig_keeps s))
    <| .ite (keeps _ (doForceFallback_keeps s))
    <| .ite (keeps _ (doResume_keeps s))
    <| .ite (.ite (.of_keeps (doArmCapture_keeps s _)) (keeps _ (doArmCapture_keeps s _)))
    <| .ite (keeps _ (doTriggerCapture_keeps s))
    <| .ite (answers _ (doReadCapture_state s _ _))
    <| .ite (keeps _ (doReleaseCapture_keeps s)) (.refuse s _)

theorem manage_ends {s : State} (hh : s.held = false) (src : Byte) (payload : List Byte) :
    YieldsOrResets s (s.manage src payload) := by
  have acts {f : RequestAct} (h : Acts s f) (rq : Requester) (kind : Byte) : YieldsOrResets s (s.answer rq kind f) :=
    .inl (Yields.trans h (reply_keeps _ _ _ _ _))
  unfold State.manage
  dsimp only
  split
  · exact acts (.refuse s _) _ _
  · split
    · split
      · exact (restartRequest_ends s _).yields
      · exact acts (.refuse s _) _ _
    · exact acts (requestAct_acts hh _ _) _ _

/-! ### The end of a frame (R1, R5, R6) -/

theorem manageSeen_wired (s : State) (dst : Byte) : Wired s (s.manageSeen dst) := by
  unfold State.manageSeen
  split
  · exact ⟨restartWatchdog_keeps s, rfl, fun p => by cases p <;> rfl, rfl⟩
  · exact .refl s

theorem wrongSide_keeps (s : State) (p : Port) (b : Bool) :
    Keeps s (if b = true then s.count p fun c => { c with wrongSide := bump c.wrongSide } else s) := by
  split
  · exact (count_wired fun g => { g with wrongSide := bump_le g.wrongSide }).keeps
  · exact .refl s

theorem consume_ends {s : State} (hh : s.held = false) (p : Port) (bs : List Byte) : YieldsOrResets s (s.consume p bs) := by
  unfold State.consume
  dsimp only
  split
  · have seen := manageSeen_wired s (byteAt bs 1)
    exact seen.then (manage_ends (seen.held.trans hh) _ _)
  · exact .inl (sampleFrame_keeps s _ _).yields
  · exact .inl (positionFrame_keeps s _ _).yields
  · exact .inl (wrongSide_keeps s p _).yields

/-- Port F hands no frame to management. -/
theorem consume_keeps_F (s : State) (bs : List Byte) : Keeps s (s.consume .F bs) := by
  unfold State.consume
  dsimp only
  split
  · next h =>
    simp only [State.consumer] at h
    split at h
    · cases h
    · split at h
      · cases h
      · split at h
        · cases h
        · split at h <;> cases h
  · exact sampleFrame_keeps s _ _
  · exact positionFrame_keeps s _ _
  · exact wrongSide_keeps s .F _

/-- The good frame before its consumption: counted, its slot found good. -/
theorem goodFrame_counted (s : State) (p : Port) (f : RxFrame) : ∃ u, Wired s u ∧ s.goodFrame p f = u.consume p f.bytes := by
  have counted : Wired s (s.count p fun c => { c with good := bump c.good }) :=
    count_wired fun g => { g with good := bump_le g.good }
  refine ⟨_, ?_, rfl⟩
  split
  · exact counted.trans (modLast_wired _ _ _)
  · exact counted

/-- The end mark counts a frame as bad, or hands it on. -/
theorem endMark_cases {s : State} {p : Port} (h : (s.port p).up = true) :
    Wired s (s.endMark p) ∨ ∃ u bs, Wired s u ∧ s.endMark p = u.consume p bs := by
  unfold State.endMark
  split
  · exact .inl (badFrame_wired s p _ _)
  · exact .inl (setRx_wired (.inl h))
  · next f _ =>
    have idle := setRx_wired (s := s) (p := p) (r := .idle) (.inl h)
    dsimp only
    split
    · obtain ⟨u, wired, e⟩ := goodFrame_counted (s.setRx p .idle) p f
      exact .inr ⟨u, f.bytes, idle.trans wired, e⟩
    · exact .inl (idle.trans (badFrame_wired _ _ _ _))

theorem onLine_cases (s : State) (p : Port) (f : State → State) :
    s.onLine p f = s ∨ (s.held = false ∧ (s.port p).up = true ∧ s.onLine p f = f s) := by
  unfold State.onLine
  split
  · exact .inl rfl
  · next h => exact .inr ⟨by simp_all, by simp_all, rfl⟩

theorem frameReceived_cases {s : State} {p : Port} (h : (s.port p).up = true) (bs : List Byte) :
    Wired s ((s.rxBytes p bs).endMark p) ∨ ∃ u cs, Wired s u ∧ (s.rxBytes p bs).endMark p = u.consume p cs := by
  have taken := rxBytes_wired p bs h
  exact (endMark_cases ((taken.up p).trans h)).imp taken.trans fun ⟨u, cs, w, e⟩ => ⟨u, cs, taken.trans w, e⟩

/-! ### Boundaries and links (R15, R17) -/

theorem finish_wired (s : State) (p : Port) : Wired s (s.modPort p PortState.finish) := modPort_wired (finish_steps _)

theorem boundary_ends {s : State} {p : Port} (h : (s.port p).up = true) : KeepsOrResets s (s.boundary p) := by
  have finished := finish_wired s p
  unfold State.boundary
  split
  · exact .inl (.refl s)
  · dsimp only
    split
    · exact .inr ⟨finished.keeps.toKeepsSafe.trans (enterRestart_keeps _), rfl⟩
    · exact .inl (finished.keeps.trans (arbitrate_keeps ((finished.up p).trans h)))

theorem restartEffect_ends (s : State) : KeepsOrResets s s.restartEffect := by
  unfold State.restartEffect
  split
  · exact .inr ⟨(finish_wired s .S).keeps.toKeepsSafe.trans (enterRestart_keeps _), rfl⟩
  · exact .inl (.refl s)

theorem linkDown_ends (s : State) (p : Port) : KeepsOrResets s (s.linkDown p) := by
  have stopped := (loseInput_wired s p).keeps.trans (stopOutput_keeps (loseInput_idle s p))
  refine stopped.then (u := State.afterLinkDown _ p _) ?_
  unfold State.afterLinkDown
  split
  · split
    · exact .inl (selection_keeps _)
    · exact .inl (.refl _)
  · split
    · exact .inr ⟨enterRestart_keeps _, rfl⟩
    · exact .inl (.refl _)

theorem conditionReset_ends (s : State) (c : ResetKind) : KeepsOrResets s (s.conditionReset c) := by
  unfold State.conditionReset
  split
  · exact .inl (.refl s)
  · exact .inr ⟨clearAll_keeps s c, rfl⟩

end Sys2Proof.Machine
end

section
/-! Every command, and so every step, keeps the standing facts: the obligations on invariants. -/

namespace Sys2Proof.Machine

theorem live_ends {s : State} {f : State → State} (h : KeepsOrResets s (f s)) : KeepsOrResets s (s.live f) := by
  unfold State.live
  split
  · exact .inl (.refl s)
  · exact h

theorem onLine_ends {s : State} {p : Port} {f : State → State} (h : s.held = false → (s.port p).up = true → KeepsOrResets s (f s)) :
    KeepsOrResets s (s.onLine p f) := by
  rcases onLine_cases s p f with e | ⟨hh, up, e⟩ <;> rw [e]
  · exact .inl (.refl s)
  · exact h hh up

/-- Every command but RELEASE and a frame on port S keeps every lockout, or resets the part. -/
theorem exec_keeps (c : Instr) (s : State) (notRelease : ∀ rq b, c ≠ .release rq b) (notFrame : ∀ bs, c ≠ .frameReceived .S bs) :
    ∃ t, exec c s = .next t ∧ KeepsOrResets s t := by
  have line (p : Port) (f : State → State) (h : (s.port p).up = true → Keeps s (f s)) : KeepsOrResets s (s.onLine p f) :=
    onLine_ends fun _ up => .inl (h up)
  have timed (f : State → State) (h : Keeps s (f s)) : KeepsOrResets s (s.live f) := live_ends (.inl h)
  have asks (rq : Requester) (kind : Byte) (f : State → State × Answer) (h : Keeps s (f s).1) :
      KeepsOrResets s (s.request rq kind f) := .inl (request_keeps (fun _ => h) rq kind)
  have reads (rq : Requester) (kind : Byte) (f : State → State × Answer) (h : (f s).1 = s) :
      KeepsOrResets s (s.request rq kind f) := asks rq kind f (by rw [h]; exact .refl s)
  cases c with
  | frameReceived p bs =>
    cases p with
    | S => exact absurd rfl (notFrame bs)
    | F =>
      refine ⟨_, rfl, line .F _ fun up => ?_⟩
      rcases frameReceived_cases up bs with w | ⟨u, cs, w, e⟩
      · exact w.keeps
      · rw [e]; exact w.keeps.trans (consume_keeps_F u cs)
  | transitSlotTaken p b =>
    refine ⟨_, rfl, line p _ fun up => ?_⟩
    split
    · split
      · exact (takeSlot_wired up _ _).keeps
      · exact .refl s
    · exact .refl s
    · exact .refl s
  | cutThroughEligible p bs => exact ⟨_, rfl, line p _ fun up => (rxBytes_wired p bs up).keeps⟩
  | frameOverlength p bs => exact ⟨_, rfl, line p _ fun up => (rxBytes_wired p bs up).keeps⟩
  | frameBoundary p => exact ⟨_, rfl, onLine_ends fun _ up => boundary_ends up⟩
  | linkDown p => exact ⟨_, rfl, onLine_ends fun _ _ => linkDown_ends s p⟩
  | linkUp p => exact ⟨_, rfl, .inl (linkUp_keeps s p)⟩
  | kindByteArrives p b =>
    refine ⟨_, rfl, line p _ fun up => ?_⟩
    split
    · exact (setRx_wired (.inl up)).keeps
    · exact .refl s
    · exact .refl s
  | sourceLost a => exact ⟨_, rfl, timed _ (loseSource_keeps s a)⟩
  | yardWindowIndexTimeout => exact ⟨_, rfl, timed _ (yardTimeout_keeps s)⟩
  | lastHandedOverTimeout r => exact ⟨_, rfl, timed _ (handedTimeout_keeps s r)⟩
  | evaluationStateTimeout e => exact ⟨_, rfl, timed _ (evaluationTimeout_keeps s e)⟩
  | captureStoreTimeout => exact ⟨_, rfl, timed _ (captureStoreTimeout_keeps s)⟩
  | switchTimeout k => exact ⟨_, rfl, timed _ (switchTimeout_keeps s k)⟩
  | movingTimerExpiry k => exact ⟨_, rfl, timed _ (movingExpiry_keeps s k)⟩
  | unitSilence k => exact ⟨_, rfl, timed _ (silenceExpiry_keeps s k)⟩
  | timeBaseTick => exact ⟨_, rfl, timed _ (tick_keeps s)⟩
  | cooldownExpiry k => exact ⟨_, rfl, timed _ (cooldownOver_keeps s k)⟩
  | closeGapExpiry => exact ⟨_, rfl, timed _ (closeGapExpiry_keeps s)⟩
  | watchdogExpiry => exact ⟨_, rfl, timed _ (watchdogExpiry_keeps s)⟩
  | referenceClockLoss => exact ⟨_, rfl, timed _ (referenceLoss_keeps s)⟩
  | referenceClockReturn => exact ⟨_, rfl, timed _ (referenceReturn_keeps s)⟩
  | referenceGapDuringRecovery => exact ⟨_, rfl, timed _ (referenceGap_keeps s)⟩
  | readStatusPart rq => exact ⟨_, rfl, reads rq _ _ rfl⟩
  | readStatusControl rq => exact ⟨_, rfl, reads rq _ _ rfl⟩
  | readStatusStages rq b => exact ⟨_, rfl, reads rq _ _ (by unfold State.doStatusStages; split <;> rfl)⟩
  | readStatusHarmonic rq => exact ⟨_, rfl, reads rq _ _ rfl⟩
  | readStatusCapture rq => exact ⟨_, rfl, reads rq _ _ rfl⟩
  | readMeasurements rq b cs => exact ⟨_, rfl, reads rq _ _ (doReadMeasurements_state s b cs)⟩
  | readCounters rq => exact ⟨_, rfl, reads rq _ _ rfl⟩
  | clearCounters rq => exact ⟨_, rfl, asks rq _ _ (clearCounters_keeps s)⟩
  | readStage rq b => exact ⟨_, rfl, reads rq _ _ (doReadStage_state s b)⟩
  | writeStage rq b w => exact ⟨_, rfl, asks rq _ _ (doWriteStage_keeps s b w)⟩
  | block rq b => exact ⟨_, rfl, asks rq _ _ (doBlock_keeps s true b)⟩
  | unblock rq b => exact ⟨_, rfl, asks rq _ _ (doBlock_keeps s false b)⟩
  | release rq b => exact absurd rfl (notRelease rq b)
  | manualOpen rq b => exact ⟨_, rfl, asks rq _ _ (doManualOpen_keeps s b)⟩
  | manualClose rq b => exact ⟨_, rfl, asks rq _ _ (doManualClose_keeps s b)⟩
  | captureBalance rq b => exact ⟨_, rfl, asks rq _ _ (doCaptureBalance_keeps s b)⟩
  | clearMap rq => exact ⟨_, rfl, asks rq _ _ (doClearMap_keeps s)⟩
  | appendMap rq es => exact ⟨_, rfl, asks rq _ _ (doAppendMap_keeps s es)⟩
  | readMap rq b => exact ⟨_, rfl, reads rq _ _ (doReadMap_state s b)⟩
  | writeControlSet rq i w => exact ⟨_, rfl, asks rq _ _ (doWriteControlSet_keeps s i w)⟩
  | writeControlPhases rq w => exact ⟨_, rfl, asks rq _ _ (doWriteControlPhases_keeps s w)⟩
  | writeHarmonic rq w => exact ⟨_, rfl, asks rq _ _ (doWriteHarmonic_keeps s w)⟩
  | writeLink rq w => exact ⟨_, rfl, asks rq _ _ (doWriteLink_keeps s w)⟩
  | enterService rq => exact ⟨_, rfl, .inl (request_keeps (fun hh => doEnterService_keeps hh) rq _)⟩
  | enterConfig rq => exact ⟨_, rfl, asks rq _ _ (doEnterConfig_keeps s)⟩
  | forceFallback rq => exact ⟨_, rfl, asks rq _ _ (doForceFallback_keeps s)⟩
  | resume rq => exact ⟨_, rfl, asks rq _ _ (doResume_keeps s)⟩
  | restart rq =>
    refine ⟨_, rfl, ?_⟩
    split
    · exact .inl (.refl s)
    · exact restartRequest_ends s rq
  | restartTakesEffect => exact ⟨_, rfl, live_ends (restartEffect_ends s)⟩
  | armCapture rq w => exact ⟨_, rfl, asks rq _ _ (doArmCapture_keeps s w)⟩
  | triggerCapture rq => exact ⟨_, rfl, asks rq _ _ (doTriggerCapture_keeps s)⟩
  | readCapture rq w b => exact ⟨_, rfl, reads rq _ _ (doReadCapture_state s w b)⟩
  | releaseCapture rq => exact ⟨_, rfl, asks rq _ _ (doReleaseCapture_keeps s)⟩
  | powerOnReset => exact ⟨_, rfl, .inr ⟨clearAll_keeps s _, rfl⟩⟩
  | supplyLowReset => exact ⟨_, rfl, conditionReset_ends s _⟩
  | pinReset => exact ⟨_, rfl, conditionReset_ends s _⟩
  | startUp pins reference upS upF => exact ⟨_, rfl, .inl (startUp_keeps s pins reference upS upF)⟩

/-- Every command keeps every standing fact, and every pending lockout unless it ends in LOCKED_OUT or in a reset. -/
theorem exec_yields (c : Instr) (s : State) : ∃ t, exec c s = .next t ∧ YieldsOrResets s t := by
  by_cases hr : ∃ rq b, c = .release rq b
  · obtain ⟨rq, b, rfl⟩ := hr
    refine ⟨_, rfl, .inl ?_⟩
    unfold State.request
    split
    · exact (Keeps.refl s).yields
    · exact (doRelease_yields s b).trans (reply_keeps _ _ _ _ _)
  · by_cases hf : ∃ bs, c = .frameReceived .S bs
    · obtain ⟨bs, rfl⟩ := hf
      refine ⟨_, rfl, ?_⟩
      rcases onLine_cases s .S (fun s => (s.rxBytes .S bs).endMark .S) with e | ⟨hh, up, e⟩ <;> rw [e]
      · exact .inl (Keeps.refl s).yields
      · rcases frameReceived_cases up bs with w | ⟨u, cs, w, e'⟩
        · exact .inl w.keeps.yields
        · rw [e']; exact w.then (consume_ends (w.held.trans hh) .S cs)
    · obtain ⟨t, e, h⟩ := exec_keeps c s (fun rq b e => hr ⟨rq, b, e⟩) fun bs e => hf ⟨bs, e⟩
      exact ⟨t, e, h.yields⟩

/-- A step is a byte time, or the command at the front on the state with the rest of the queue. -/
theorem step_cases {s t : State} (h : step s = .next t) :
    (s.pending = [] ∧ t = s.byteTime) ∨ ∃ c cs, s.pending = c :: cs ∧ exec c { s with pending := cs } = .next t := by
  unfold step at h
  split at h
  · next hp => exact .inl ⟨hp, (Host.Outcome.next.inj h).symm⟩
  · next c cs hp => exact .inr ⟨c, cs, hp, h⟩

theorem step_yields {s t : State} (h : step s = .next t) : YieldsOrResets s t := by
  rcases step_cases h with ⟨-, rfl⟩ | ⟨c, cs, -, e⟩
  · exact .inl (byteTime_keeps s).yields
  · obtain ⟨t', e', y⟩ := exec_yields c { s with pending := cs }
    obtain rfl : t' = t := Host.Outcome.next.inj (e'.symm.trans e)
    exact Wired.then (t := { s with pending := cs }) ⟨.of_quiet rfl, rfl, fun p => by cases p <;> rfl, rfl⟩ y

theorem step_safe {s t : State} (h : step s = .next t) : KeepsSafe s t := (step_yields h).safe

/-- Settles O14, by the ports' own changes and by the live state of a reset. -/
theorem stepKeepsChainSafe : Obligations.StepKeepsChainSafe := fun _ _ g h => (step_safe h).chain g

/-- Settles O15: each operation makes of a stage record what it may, and each entry of the queue keeps its stage. -/
theorem stepKeepsSwitchingSafe : Obligations.StepKeepsSwitchingSafe := fun _ _ g h => (step_safe h).switching g

/-- Settles O16: the list and the reported position change together. -/
theorem stepKeepsInServiceSafe : Obligations.StepKeepsInServiceSafe := fun _ _ g h => (step_safe h).inService g

/-- Settles O17, by the append of one checked entry. -/
theorem stepKeepsMapSafe : Obligations.StepKeepsMapSafe := fun _ _ g h => (step_safe h).map g

/-- Settles O18, by the ways a window joins the store. -/
theorem stepKeepsCaptureSafe : Obligations.StepKeepsCaptureSafe := fun _ _ g h => (step_safe h).capture g

/-- Settles O19: every counter is raised by `bump` alone. -/
theorem stepKeepsCountersSafe : Obligations.StepKeepsCountersSafe := fun _ _ g h => (step_safe h).counters g

/-- Settles O20, by the live state that every reset clears to. -/
theorem resetIsSafe : Obligations.ResetIsSafe :=
  ⟨reset_cleared.chain, reset_cleared.switching, reset_cleared.inServiceSafe, emptyMap_safe rfl rfl,
    ⟨by decide, by decide, by decide, by decide⟩, reset_cleared.countersSafe⟩

/-! ### The law of R137 -/

theorem tripSafe_reset : TripSafe State.reset :=
  (tripSafe_iff _).2 ⟨reset_cleared.base, fun k e => by rw [(reset_cleared.stage k).2.2.2.1] at e; cases e⟩

/-- Outside a reset period a pending lockout ends in LOCKED_OUT alone. -/
theorem step_pends {s t : State} {k : StageIx} (hs : SwitchingSafe s) (ht : TripSafe s) (h : step s = .next t)
    (hh : t.held = false) (hp : (s.stage k).lockoutPending = true) : lockoutKeeps (t.stage k) = true := by
  rcases step_yields h with y | ⟨-, e⟩
  · exact y.pends k hs ((tripSafe_iff s).1 ht).1 hp
  · exact absurd (hh.symm.trans e) Bool.false_ne_true

/-- No other command than a RELEASE or a frame on port S ends a lockout without a reset. -/
theorem step_locks {s t : State} {k : StageIx} (hs : SwitchingSafe s) (ht : TripSafe s) (h : step s = .next t)
    (hh : t.held = false) (notRelease : ∀ rq b, s.pending.head? ≠ some (.release rq b))
    (notFrame : ∀ bs, s.pending.head? ≠ some (.frameReceived .S bs)) (hl : lockoutKeeps (s.stage k) = true) :
    lockoutKeeps (t.stage k) = true := by
  have base := ((tripSafe_iff s).1 ht).1
  rcases step_cases h with ⟨-, rfl⟩ | ⟨c, cs, hp, e⟩
  · exact (byteTime_keeps s).locks k hs base hl
  · rw [hp] at notRelease notFrame
    obtain ⟨t', e', kr⟩ := exec_keeps c { s with pending := cs } (fun rq b e => notRelease rq b (by rw [e]; rfl))
      fun bs e => notFrame bs (by rw [e]; rfl)
    obtain rfl : t' = t := Host.Outcome.next.inj (e'.symm.trans e)
    have popped : Keeps s { s with pending := cs } := .of_quiet rfl
    rcases popped.then kr with kp | ⟨-, e⟩
    · exact kp.locks k hs base hl
    · exact absurd (hh.symm.trans e) Bool.false_ne_true

/-! ### The window of a trip (R135, R136) -/

/-- Sending keeps a pending lockout pending. -/
theorem sendEntry_pending (s : State) (e : QueueEntry) (k : StageIx) (h : (s.stage k).lockoutPending = true) :
    ((s.sendEntry e).stage k).lockoutPending = true := by
  by_cases hk : k = e.stage
  · subst hk
    rw [sendEntry_stage]
    simp [sendStage, lockoutKeeps, h]
  · rw [sendEntry_stage_ne s e hk]; exact h

theorem gather_pending (s : State) (k : StageIx) (op : Operation) (c : CmdClass) (o : Origin) (j : StageIx)
    (h : (s.stage j).lockoutPending = true) : ((s.gather k op c o).1.stage j).lockoutPending = true :=
  gather_frame (P := fun t => (t.stage j).lockoutPending = true) (fun _ _ h => h)
    (fun t e r h => by rw [dropEntry_stage]; exact h) (fun t e h => sendEntry_pending t e j h) h k op c o

/-- A PROTECT OPEN of the stage is queued, or in flight with the stage OPENING. -/
def TripOrdered (t : State) (k : StageIx) : Prop :=
  (∃ e ∈ t.queue, e.stage = k ∧ e.op = .open ∧ e.cls = .protect)
    ∨ ∃ f, (t.stage k).inFlight = some f ∧ f.op = .open ∧ f.cls = .protect ∧ (t.stage k).state = .opening

theorem raiseFlight_protect {f : InFlight} (h : f.op = .open) : (raiseFlight f).cls = .protect := by
  unfold raiseFlight
  cases hc : f.cls with
  | normal => rw [if_pos ⟨h, rfl⟩]
  | protect => rw [if_neg (by simp)]; exact hc

/-- The submission of a trip leaves its PROTECT OPEN queued or in flight, and the lockout pending. -/
theorem submitTrip_leaves {s : State} {k : StageIx} (hs : SwitchingSafe s) (hm : s.mode ≠ .config)
    (known : (s.stage k).state ≠ .absent) (hr : (s.stage k).reported ≠ some .open) (hp : (s.stage k).lockoutPending = true) :
    ((s.submitTrip k).1.stage k).lockoutPending = true ∧ TripOrdered (s.submitTrip k).1 k := by
  have pending := gather_pending s k .open .protect .unbalanceTrip k hp
  have flies := ((gather_trip_keeps s k).switching hs).flies k
  rcases submitTrip_cases s k with ⟨already, h⟩ | ⟨fresh, h⟩ <;> rw [h]
  · rcases gather_ordered (org := .unbalanceTrip) hs hm known hr (by decide) with ⟨-, f, hf, ho⟩ | ⟨ne, -⟩
    · refine ⟨by rw [State.modStage_stage]; exact pending, .inr ⟨raiseFlight f, ?_, (raiseFlight_op f).trans ho,
        raiseFlight_protect ho, ?_⟩⟩
      · rw [State.modStage_stage]; exact congrArg (Option.map raiseFlight) hf
      · rw [State.modStage_stage]; exact flies.opening.2 ⟨f, hf, ho⟩
    · exact absurd already ne
  · rcases gather_ordered (org := .unbalanceTrip) hs hm known hr (by decide) with ⟨e, -⟩ | ⟨-, queued | ⟨f, hf, ho, hc⟩⟩
    · exact absurd e fresh
    · exact ⟨pending, .inl queued⟩
    · exact ⟨pending, .inr ⟨f, hf, ho, hc, flies.opening.2 ⟨f, hf, ho⟩⟩⟩

theorem unbalanceTripStep_leaves {s : State} {k : StageIx} (old u : Nat) (w : WindowIx) (hs : SwitchingSafe s)
    (hm : s.mode ≠ .config) (known : (s.stage k).state ≠ .absent) (hr : (s.stage k).reported = some .closed)
    (at_ : (s.stage k).unb.tripCount = (s.stage k).cfg.tripDelay) (one : old + 1 = (s.stage k).cfg.tripDelay) :
    ((s.unbalanceTripStep k old u w).stage k).lockoutPending = true ∧ TripOrdered (s.unbalanceTripStep k old u w) k := by
  have reached : reaches old (s.stage k).unb.tripCount (s.stage k).cfg.tripDelay = true := by simp [reaches, at_, one]
  unfold State.unbalanceTripStep
  dsimp only
  rw [if_pos reached]
  have marked := State.modStage_stage s k fun a => { a with lockoutPending := true }
  have safe : SwitchingSafe (s.modStage k fun a => { a with lockoutPending := true }) :=
    SwitchingSafe.of_flies (s := s) (t := s.modStage k fun a => { a with lockoutPending := true }) rfl rfl rfl rfl rfl
      (State.forall_modStage (P := fun j b => (s.stage j).Flies → b.Flies) (fun g => ⟨g.closing, g.opening, g.still⟩) fun _ _ => id)
      (State.forall_modStage (P := fun j b => b.inFlight = none ∨ b.inFlight.map (·.op) = (s.stage j).inFlight.map (·.op))
        (.inr rfl) fun _ _ => .inr rfl) hs
  obtain ⟨pending, ordered⟩ := submitTrip_leaves (s := s.modStage k fun a => { a with lockoutPending := true }) (k := k) safe hm
    (by rw [marked]; exact known) (by rw [marked]; show (s.stage k).reported ≠ _; rw [hr]; simp) (by rw [marked])
  simp only [TripOrdered, trigger_stage, trigger_queue, notice_stage, notice_queue] at ordered ⊢
  exact ⟨pending, ordered⟩

/-- Settles O50: the law with what it rests on by the standing facts of every step, its window by where gathering leaves a
PROTECT OPEN. -/
theorem tripStandsUntilOpened : Obligations.TripStandsUntilOpened := by
  refine ⟨fun s t hs ht h => (step_safe h).trip hs ht, fun s t k hs ht h hh => ⟨fun hp => ?_, fun hl nr nf => ?_⟩,
    tripSafe_reset, fun s k old u w hs hm known hr at_ one => ?_⟩
  · have kept := step_pends hs ht h hh hp
    simp only [lockoutKeeps, Bool.or_eq_true, beq_iff_eq] at kept
    exact kept.symm
  · have kept := step_locks (k := k) hs ht h hh nr nf (by simp [lockoutKeeps, hl])
    simpa only [lockoutKeeps, Bool.or_eq_true, beq_iff_eq] using kept
  · exact ⟨unbalanceTripStep_switched s k old u w, unbalanceTripStep_leaves old u w hs hm known hr at_ one⟩

end Sys2Proof.Machine
end

section
/-! The queue of commands and the receive side of the ports: O1 to O8, O10, O12, O13. -/

namespace Sys2Proof.Machine

/-! ### The queue of commands -/

/-- Settles O1, by the definition of the step. -/
theorem stepRunsFrontCommand : Obligations.StepRunsFrontCommand := fun _ _ _ => rfl

theorem byteTime_line (q : PortState) : q.byteTime = { q with tx := q.byteTime.tx } := by
  unfold PortState.byteTime; split <;> rfl

/-- Settles O2, by the cases of a transmission. -/
theorem emptyQueueSendsAByte : Obligations.EmptyQueueSendsAByte := by
  intro s hp hh
  have sent (p : Port) : ({ s with portS := s.portS.byteTime, portF := s.portF.byteTime } : State).port p = (s.port p).byteTime := by
    cases p <;> rfl
  refine ⟨{ s with portS := s.portS.byteTime, portF := s.portF.byteTime }, ?_, ?_, fun p => ?_⟩
  · simp [step, hp, State.byteTime, hh]
  · conv_lhs => rw [byteTime_line s.portS, byteTime_line s.portF]
  · rw [sent]
    unfold PortState.byteTime
    exact ⟨fun h => by simp [h], fun f n h => by simp [h], fun n slot rest h hb => by simp [h, hb]⟩

/-! ### The receive store (R1, R4, R8, R9) -/

/-- Settles O3, by the branches of the slot decision. -/
theorem kindAndDestinationBytes : Obligations.KindAndDestinationBytes := by
  refine ⟨⟨fun s p b hh up hr => ?_, rfl, rfl, rfl, rfl, rfl, rfl, fun b hb => ?_⟩, fun s p b f hh up hr hl => ?_⟩
  · show Host.Outcome.next (s.onLine p _) = _
    rw [State.onLine_of_up hh up, hr]
    rfl
  · simp only [List.mem_cons, List.not_mem_nil, or_false, not_or] at hb
    obtain ⟨h1, h2, h3, h4, h5, h6⟩ := hb
    unfold modeIx
    rw [if_neg h1, if_neg h2, if_neg h3, if_neg h4, if_neg h5, if_neg h6]
  · show Host.Outcome.next (s.onLine p _) = _
    rw [State.onLine_of_up hh up, hr]
    dsimp only
    rw [if_pos hl]
    congr 1
    have own : (!s.forwards b) = true ↔ s.fullNode = true ∧ b = s.addr := by simp [State.forwards]
    unfold State.takeSlot
    dsimp only
    by_cases h1 : s.fullNode = true ∧ b = s.addr
    · rw [if_pos (own.2 h1), if_pos h1]; rfl
    · rw [if_neg (h1 ∘ own.1), if_neg h1]
      by_cases h2 : (s.port (otherPort p)).up = false
      · rw [if_pos (by simp [h2]), if_pos h2]; rfl
      · rw [if_neg (by simpa using h2), if_neg h2]
        split <;> rfl

/-- The later bytes of a frame in a slot go to the receive store and to the newest slot of the other port. -/
theorem rxBytes_slot {p : Port} : ∀ (bs : List Byte) {s : State} {f : RxFrame} {front : List TransitSlot} {slot : TransitSlot},
    (s.port p).rx = .receiving f → f.inSlot = true → 2 ≤ f.bytes.length → (s.port (otherPort p)).buf = front ++ [slot] →
    f.bytes.length + bs.length ≤ 256 →
    s.rxBytes p bs = (s.modPort p fun q => { q with rx := .receiving { f with bytes := f.bytes ++ bs } }).modPort (otherPort p)
      fun q => { q with buf := front ++ [{ slot with bytes := slot.bytes ++ bs }] }
  | [], s, f, front, slot, hr, hs, hl, hb, hn => by
    cases p <;> simp only [State.rxBytes, List.foldl_nil, List.append_nil, State.modPort, otherPort, State.port] at hr hb ⊢ <;>
      rw [← hr, ← hb]
  | b :: bs, s, f, front, slot, hr, hs, hl, hb, hn => by
    simp only [List.length_cons] at hn
    have one : State.rxByte p s b = (s.modPort p fun q => { q with rx := .receiving { f with bytes := f.bytes ++ [b] } }).modPort
        (otherPort p) fun q => { q with buf := front ++ [{ slot with bytes := slot.bytes ++ [b] }] } := by
      rw [rxByte_later hr (by omega)]
      unfold State.laterByte
      rw [if_neg (by omega)]
      dsimp only
      rw [if_pos hs]
      cases p <;> simp only [State.setRx, State.modPort, otherPort, State.port] at hb ⊢ <;> rw [hb, modLast_append]
    show State.rxBytes (State.rxByte p s b) p bs = _
    rw [one, rxBytes_slot bs (f := { f with bytes := f.bytes ++ [b] }) (front := front)
      (slot := { slot with bytes := slot.bytes ++ [b] }) (by simp) hs (by simp; omega) (by simp) (by simp; omega)]
    cases p <;> simp [State.modPort, otherPort]

/-- Settles O4, by the bytes one after another. -/
theorem cutThroughBecomesEligible : Obligations.CutThroughBecomesEligible := by
  intro s p bs f front slot hh up hr hs hl hb same cut hn thr len
  refine ⟨?_, ?_⟩
  · show Host.Outcome.next (s.onLine p _) = _
    rw [State.onLine_of_up hh up, rxBytes_slot bs hr hs hl hb hn]
  · simp [TransitSlot.eligible, cut, same, len, thr]

end Sys2Proof.Machine
end

section
/-! Bad frames, good frames and their consumption: O5 to O8. -/

namespace Sys2Proof.Machine

theorem rxBytes_ignoring {s : State} {p : Port} (h : (s.port p).rx = .ignoring) : ∀ bs, s.rxBytes p bs = s
  | [] => rfl
  | b :: bs => by
    show State.rxBytes (State.rxByte p s b) p bs = s
    rw [rxByte_ignoring h, rxBytes_ignoring h bs]

/-! ### A frame that does not get through (R1, R10 to R12) -/

theorem modPort_ports (s : State) (p : Port) (f : PortState → PortState) :
    s.modPort p f = { s with portS := (s.modPort p f).portS, portF := (s.modPort p f).portF } := by cases p <;> rfl

theorem abandonArriving_only (s : State) (o : Port) (upTo : Nat → Nat → Nat) :
    s.abandonArriving o upTo = { s with
      portS := (s.abandonArriving o upTo).portS, portF := (s.abandonArriving o upTo).portF
      fresh := (s.abandonArriving o upTo).fresh } := by
  unfold State.abandonArriving
  dsimp only
  split <;> cases o <;> rfl

theorem abandonArriving_other (s : State) (o : Port) (upTo : Nat → Nat → Nat) :
    (s.abandonArriving o upTo).port (otherPort o) = s.port (otherPort o) := by
  unfold State.abandonArriving
  dsimp only
  split
  · rw [State.modPort_other]; cases o <;> rfl
  · exact State.modPort_other ..

/-- What every abandoned frame leaves of the output port: its input and its insert queue, its slot given up. -/
theorem abandonArriving_port (s : State) (o : Port) (upTo : Nat → Nat → Nat) :
    ((s.abandonArriving o upTo).port o).rx = (s.port o).rx
      ∧ ((s.abandonArriving o upTo).port o).buf = (s.port o).buf.dropLast := by
  unfold State.abandonArriving
  dsimp only
  split
  · rw [State.modPort_port]; cases o <;> exact ⟨rfl, rfl⟩
  · rw [State.modPort_port]; exact ⟨rfl, rfl⟩

/-- Without a copy of it under way the frame leaves its slot and nothing else changes. -/
theorem abandonArriving_silent {s : State} {o : Port} {front : List TransitSlot} {slot : TransitSlot} (upTo : Nat → Nat → Nat)
    (hb : (s.port o).buf = front ++ [slot]) (h : front ≠ [] ∨ ∀ n, (s.port o).tx ≠ .transit n) :
    s.abandonArriving o upTo = s.modPort o fun q => { q with buf := front } := by
  have silent : (s.port o).copyUnderWay = none := by
    unfold PortState.copyUnderWay
    split
    · next n ht =>
      rcases h with hne | ht'
      · have : front.length ≠ 0 := by simpa using hne
        rw [hb, if_neg (by simpa using hne)]
      · exact absurd ht (ht' n)
    · rfl
  unfold State.abandonArriving
  dsimp only
  rw [silent]
  dsimp only
  cases o <;> simp only [State.modPort, State.port] at hb ⊢ <;> rw [hb, List.dropLast_concat]

/-- A copy of it under way is ended poisoned and counted. -/
theorem abandonArriving_poisons {s : State} {o : Port} {slot : TransitSlot} {sent : Nat} (upTo : Nat → Nat → Nat)
    (hb : (s.port o).buf = [slot]) (ht : (s.port o).tx = .transit sent) :
    (s.abandonArriving o upTo).port o = { s.port o with
      buf := [], tx := .idle, line := poisonedCopy slot.bytes (upTo sent slot.bytes.length) :: (s.port o).line
      ctr := { (s.port o).ctr with poisoned := bump (s.port o).ctr.poisoned } } := by
  have under : (s.port o).copyUnderWay = some sent := by simp [PortState.copyUnderWay, ht, hb]
  unfold State.abandonArriving
  dsimp only
  rw [under, hb]
  dsimp only [List.getLast?]
  rw [State.modPort_port]
  cases o <;> simp only [State.port] at hb ⊢ <;> rw [hb] <;> rfl

theorem count_other (s : State) (p : Port) (f : PortCounters → PortCounters) :
    (s.count p f).port (otherPort p) = s.port (otherPort p) := State.modPort_other ..

theorem badFrame_only (s : State) (p : Port) (f : RxFrame) (upTo : Nat → Nat → Nat) :
    s.badFrame p f upTo = { s with
      portS := (s.badFrame p f upTo).portS, portF := (s.badFrame p f upTo).portF, fresh := (s.badFrame p f upTo).fresh } := by
  unfold State.badFrame
  dsimp only
  split
  · rw [abandonArriving_only]; cases p <;> rfl
  · cases p <;> rfl

theorem badFrame_own (s : State) (p : Port) (f : RxFrame) (upTo : Nat → Nat → Nat) :
    (s.badFrame p f upTo).port p
      = { s.port p with ctr := { (s.port p).ctr with checkFailures := bump (s.port p).ctr.checkFailures } } := by
  unfold State.badFrame
  dsimp only
  split
  · have h := abandonArriving_other (s.count p fun c => { c with checkFailures := bump c.checkFailures }) (otherPort p) upTo
    rw [otherPort_otherPort] at h
    exact h.trans (State.modPort_port ..)
  · exact State.modPort_port ..

/-- The output port of a bad frame: untouched without a slot, otherwise as the abandoned frame leaves it. -/
theorem badFrame_unslotted {s : State} {p : Port} {f : RxFrame} (upTo : Nat → Nat → Nat) (h : f.inSlot = false) :
    (s.badFrame p f upTo).port (otherPort p) = s.port (otherPort p) := by
  unfold State.badFrame
  rw [h]
  exact count_other s p fun c => { c with checkFailures := bump c.checkFailures }

theorem badFrame_slotted {s : State} {p : Port} {f : RxFrame} (upTo : Nat → Nat → Nat) (h : f.inSlot = true) :
    s.badFrame p f upTo = (s.count p fun c => { c with checkFailures := bump c.checkFailures }).abandonArriving (otherPort p) upTo := by
  unfold State.badFrame
  exact if_pos h

theorem badFrame_other (s : State) (p : Port) (f : RxFrame) (upTo : Nat → Nat → Nat) :
    ((s.badFrame p f upTo).port (otherPort p)).rx = (s.port (otherPort p)).rx
      ∧ ((s.badFrame p f upTo).port (otherPort p)).buf
        = if f.inSlot then (s.port (otherPort p)).buf.dropLast else (s.port (otherPort p)).buf := by
  cases hs : f.inSlot with
  | false => rw [badFrame_unslotted upTo hs]; exact ⟨rfl, rfl⟩
  | true =>
    rw [badFrame_slotted upTo hs]
    have h := abandonArriving_port (s.count p fun c => { c with checkFailures := bump c.checkFailures }) (otherPort p) upTo
    rwa [count_other] at h

/-- A bad frame without a copy under way. -/
theorem badFrame_silent {s : State} {p : Port} {f : RxFrame} {front : List TransitSlot} {slot : TransitSlot}
    (upTo : Nat → Nat → Nat) (hs : f.inSlot = true) (hb : (s.port (otherPort p)).buf = front ++ [slot])
    (h : front ≠ [] ∨ ∀ n, (s.port (otherPort p)).tx ≠ .transit n) :
    (s.badFrame p f upTo).port (otherPort p) = { s.port (otherPort p) with buf := front } := by
  rw [badFrame_slotted upTo hs, abandonArriving_silent upTo (by rw [count_other]; exact hb) (by rw [count_other]; exact h),
    State.modPort_port, count_other]

/-- A bad frame with a copy under way. -/
theorem badFrame_poisons {s : State} {p : Port} {f : RxFrame} {slot : TransitSlot} {sent : Nat} (upTo : Nat → Nat → Nat)
    (hs : f.inSlot = true) (hb : (s.port (otherPort p)).buf = [slot]) (ht : (s.port (otherPort p)).tx = .transit sent) :
    (s.badFrame p f upTo).port (otherPort p) = { s.port (otherPort p) with
      buf := [], tx := .idle, line := poisonedCopy slot.bytes (upTo sent slot.bytes.length) :: (s.port (otherPort p)).line
      ctr := { (s.port (otherPort p)).ctr with poisoned := bump (s.port (otherPort p)).ctr.poisoned } } := by
  rw [badFrame_slotted upTo hs, abandonArriving_poisons upTo (by rw [count_other]; exact hb) (by rw [count_other]; exact ht),
    count_other]

theorem setRx_port (s : State) (p : Port) (r : Rx) : (s.setRx p r).port p = { s.port p with rx := r } := State.modPort_port ..

theorem setRx_other (s : State) (p : Port) (r : Rx) : (s.setRx p r).port (otherPort p) = s.port (otherPort p) :=
  State.modPort_other ..

/-- Settles O5: from the 257th byte on the port ignores what arrives. -/
theorem overlengthFrameIsBad : Obligations.OverlengthFrameIsBad := by
  intro s p b more f hh up hr hl
  set u := s.badFrame p f (poisonEnd s.fresh) with hu
  have long : State.rxByte p s b = u.setRx p .ignoring := by
    rw [rxByte_later hr (by omega)]
    exact if_pos (by omega)
  refine ⟨u.setRx p .ignoring, ?_, by rw [setRx_port], ?_, ?_, ?_, ?_, ?_⟩
  · show Host.Outcome.next (s.onLine p _) = _
    rw [State.onLine_of_up hh up]
    show Host.Outcome.next (State.rxBytes (State.rxByte p s b) p more) = _
    rw [long, rxBytes_ignoring (by rw [setRx_port])]
  · rw [setRx_port, hu, badFrame_own]
  · rw [setRx_other, hu, (badFrame_other s p f _).1]
  · rw [setRx_port, hu, badFrame_own]
  · rw [setRx_other, hu, (badFrame_other s p f _).2]
  · rw [State.setRx, modPort_ports, hu, badFrame_only]

/-! ### The end mark (R1, R6, R10, R11) -/

/-- FRAME_RECEIVED on a port that is UP takes in its bytes and then the end mark. -/
theorem exec_frameReceived {s : State} {p : Port} (hh : s.held = false) (up : (s.port p).up = true) (bs : List Byte) :
    exec (.frameReceived p bs) s = .next ((s.rxBytes p bs).endMark p) := by
  show Host.Outcome.next (s.onLine p _) = _
  rw [State.onLine_of_up hh up]

/-- Settles O6, by the end mark of a good frame. -/
theorem goodFrameIsCountedAndHandedOn : Obligations.GoodFrameIsCountedAndHandedOn := by
  refine ⟨fun s p bs hh up => ?_, fun s p f hh up hr good => ?_⟩
  · have taken := rxBytes_wired p bs up
    rw [exec_frameReceived hh up, exec_frameReceived (taken.held.trans hh) ((taken.up p).trans up)]
    rfl
  · rw [exec_frameReceived hh up]
    show Host.Outcome.next (s.endMark p) = _
    unfold State.endMark
    rw [hr]
    dsimp only
    rw [if_pos good]
    cases p <;> rfl

/-- Settles O7, by the table of consumers. -/
theorem consumptionByKindAndPort : Obligations.ConsumptionByKindAndPort := by
  refine ⟨fun s bs full => ⟨?_, ?_⟩, fun s p bs part => ?_⟩
  · unfold State.consume State.consumer
    simp only [full, Bool.not_true, Bool.false_eq_true, if_false, Bool.true_and, beq_iff_eq]
    by_cases h30 : byteAt bs 0 = 0x30 ∧ (byteAt bs 1 = s.addr ∨ byteAt bs 1 = 0)
    · rw [if_pos h30, if_pos h30]; rfl
    · rw [if_neg h30, if_neg h30]
  · unfold State.consume State.consumer
    simp only [full, Bool.not_true, Bool.false_eq_true, if_false, Bool.true_and, beq_iff_eq]
    by_cases h255 : byteAt bs 1 = 255
    · simp only [h255, ne_eq, not_true_eq_false, false_and, if_true, if_false]
    · by_cases h10 : byteAt bs 0 = 0x10
      · simp only [h255, h10, ne_eq, not_false_eq_true, true_and, if_true, if_false]
      · by_cases h11 : byteAt bs 0 = 0x11
        · simp only [h255, h11, ne_eq, not_false_eq_true, true_and, if_true, if_false]
          rfl
        · simp only [h255, h10, h11, ne_eq, not_false_eq_true, true_and, if_false]
  · simp [State.consume, State.consumer, part]

theorem poisonEnd_bounds (fresh sent received : Nat) :
    min (sent + 1) received ≤ poisonEnd fresh sent received ∧ poisonEnd fresh sent received ≤ received := by
  unfold poisonEnd; omega

/-- Settles O8, by the bad frame's output port with and without a copy under way. -/
theorem badFrameLeavesItsSlot : Obligations.BadFrameLeavesItsSlot := by
  refine ⟨fun s p f hh up hr bad => ?_, fun s p hh up hr => ?_⟩
  · set v := s.setRx p .idle with hv
    have other : v.port (otherPort p) = s.port (otherPort p) := setRx_other s p _
    refine ⟨v.badFrame p f (poisonEnd v.fresh), ?_, ?_, ?_, ?_, fun hs => ?_, fun front slot hs hb => ⟨?_, fun h => ?_, ?_⟩⟩
    · rw [exec_frameReceived hh up]
      show Host.Outcome.next (s.endMark p) = _
      unfold State.endMark
      rw [hr]
      dsimp only
      rw [if_neg (by rw [bad]; simp), hv, State.setRx, State.modPort_fresh]
    · conv_lhs => rw [badFrame_only]
      rw [hv]; cases p <;> rfl
    · rw [badFrame_own, hv, setRx_port]
    · rw [badFrame_own, hv, setRx_port]
    · rw [badFrame_unslotted _ hs, other]
    · rw [(badFrame_other v p f _).2, if_pos hs, other, hb, List.dropLast_concat]
    · rw [badFrame_silent _ hs (other ▸ hb) (other ▸ h), other]
    · rintro sent rfl ht
      obtain ⟨lo, hi⟩ := poisonEnd_bounds v.fresh sent slot.bytes.length
      exact ⟨_, lo, hi, by rw [badFrame_poisons _ hs (other ▸ hb) (other ▸ ht), other]⟩
  · rw [exec_frameReceived hh up]
    show Host.Outcome.next (s.endMark p) = _
    unfold State.endMark
    rw [hr]
    rfl

end Sys2Proof.Machine
end

section
/-! The part's own frames: their check, the two insert queues and preemption (O10, O12, O13). -/

namespace Sys2Proof.Machine

/-! ### The insert queues (R7, R13, R14, R16) -/

/-- A PROTECT frame goes in behind the PROTECT frames and ahead of every other. -/
theorem placeCommand_protect (q : List InsertFrame) {f : InsertFrame} (h : f.isProtect = true) :
    placeCommand q f = q.takeWhile InsertFrame.isProtect ++ [f] ++ q.dropWhile InsertFrame.isProtect := if_pos h

theorem placeCommand_normal (q : List InsertFrame) {f : InsertFrame} (h : f.isProtect = false) : placeCommand q f = q ++ [f] :=
  if_neg (by simp [h])

theorem placeCommand_protect_head (q : List InsertFrame) {f : InsertFrame} (h : f.isProtect = true) :
    (placeCommand q f).head?.any InsertFrame.isProtect = true := by
  rw [placeCommand_protect q h]
  cases q with
  | nil => simp [h]
  | cons x q => cases hx : x.isProtect <;> simp [List.takeWhile, hx, h]

/-- Without a PROTECT frame at the head or a transit copy under way nothing is preempted. -/
theorem preempt_refl {s : State} (h : s.portF.ins.head?.any InsertFrame.isProtect = false ∨ ∀ n, s.portF.tx ≠ .transit n) :
    s.preempt = s := by
  unfold State.preempt
  split
  · next ht _ hi =>
    rcases h with h | h
    · rw [hi] at h
      have h : InsertFrame.isProtect _ = false := h
      rw [h]; simp
    · exact absurd ht (h _)
  · rfl

theorem preempt_of_transit {s : State} {x : TransitSlot} {xs : List TransitSlot} {sent : Nat} (ht : s.portF.tx = .transit sent)
    (hb : s.portF.buf = x :: xs) (hp : s.portF.ins.head?.any InsertFrame.isProtect = true) :
    s.preempt = if sent < 6 + lengthField x.bytes then { s with
      portF := s.portF.endCopy (poisonedCopy x.bytes (min (sent + 1) x.bytes.length)), preemptions := bump s.preemptions } else s := by
  obtain ⟨f, hf, hp⟩ := Option.any_eq_true _ _ |>.1 hp
  unfold State.preempt
  rw [ht, hb, hf]
  simp [hp]

theorem enterDown_up {s : State} (full : s.fullNode = true) (up : s.portF.up = true) (cls : CmdClass) (dst : Byte)
    (payload : List Byte) : s.enterDown cls dst payload = State.preempt { s with portF := { s.portF with
      ins := placeCommand s.portF.ins ⟨.command cls, formFrame 0x20 dst s.addr s.portF.seq payload⟩
      seq := s.portF.seq + 1 } } := by
  simp [State.enterDown, full, up]

theorem enterDown_down {s : State} (full : s.fullNode = true) (up : s.portF.up = false) (cls : CmdClass) (dst : Byte)
    (payload : List Byte) : s.enterDown cls dst payload =
      { s with portF := { s.portF with ctr := { s.portF.ctr with linkDiscards := bump s.portF.ctr.linkDiscards } } } := by
  simp [State.enterDown, full, up, State.count, State.modPort]

/-- Preemption leaves the insert queue and its sequence number. -/
theorem preempt_queue (s : State) : s.preempt.portF.ins = s.portF.ins ∧ s.preempt.portF.seq = s.portF.seq := by
  rcases preempt_cases s with h | ⟨c, h⟩ <;> rw [h] <;> exact ⟨rfl, rfl⟩

/-- Settles O10, by where a COMMAND frame is placed and by the one condition of preemption. -/
theorem protectPreemptsTransit : Obligations.ProtectPreemptsTransit := by
  refine ⟨fun s dst payload x xs sent full up ht hb => ?_, fun s dst payload full => ⟨fun down cls => enterDown_down full down ..,
    fun up => ?_, fun up h => ?_⟩⟩
  · set f : InsertFrame := ⟨.command .protect, formFrame 0x20 dst s.addr s.portF.seq payload⟩ with hf
    have head := placeCommand_protect_head s.portF.ins (f := f) rfl
    have entered := enterDown_up full up .protect dst payload
    rw [preempt_of_transit (s := { s with portF := { s.portF with
      ins := placeCommand s.portF.ins f, seq := s.portF.seq + 1 } }) ht hb head] at entered
    dsimp only
    rw [entered]
    by_cases early : sent < 6 + lengthField x.bytes
    · rw [if_pos early]
      exact ⟨rfl, rfl, head, placeCommand_length s.portF.ins f, fun _ => ⟨rfl, rfl, rfl⟩, fun late => absurd early (by omega)⟩
    · rw [if_neg early]
      exact ⟨rfl, rfl, head, placeCommand_length s.portF.ins f, fun e => absurd e early, fun _ => ⟨ht, rfl, rfl⟩⟩
  · refine ⟨s.portF.ins.takeWhile InsertFrame.isProtect, s.portF.ins.dropWhile InsertFrame.isProtect,
      List.takeWhile_append_dropWhile.symm, fun f hf => List.mem_takeWhile_imp hf, fun f hf => ?_, ?_, ?_⟩
    · have := List.head?_dropWhile_not InsertFrame.isProtect s.portF.ins
      rw [hf] at this
      simpa using this
    · rw [enterDown_up full up, (preempt_queue _).1]
      exact placeCommand_protect s.portF.ins (f := ⟨.command .protect, _⟩) rfl
    · rw [enterDown_up full up, (preempt_queue _).2]
  · rw [enterDown_up full up, placeCommand_normal _ rfl]
    refine preempt_refl (h.imp (fun h => ?_) id)
    cases hq : s.portF.ins with
    | nil => rfl
    | cons f fs => simpa [hq] using h

/-! ### The frame check (R1, R2) -/

/-- A number of two bytes, high byte first. -/
theorem be_two (n : Nat) : be 2 n = [BitVec.ofNat 8 (n / 256), BitVec.ofNat 8 n] := rfl

theorem append_toNat (a b : Byte) : (a ++ b).toNat = a.toNat * 256 + b.toNat := by
  rw [BitVec.toNat_append, ← Nat.shiftLeft_add_eq_or_of_lt b.isLt, Nat.shiftLeft_eq]

theorem bytes_toNat {n : Nat} (h : n < 65536) : (BitVec.ofNat 8 (n / 256) ++ BitVec.ofNat 8 n).toNat = n := by
  rw [append_toNat, BitVec.toNat_ofNat, BitVec.toNat_ofNat]
  omega

theorem checkBytes_injective {c d : BitVec 16} (h : checkBytes c = checkBytes d) : c = d := by
  simp only [checkBytes, List.cons.injEq, and_true] at h
  have split (x : BitVec 16) : x = x.extractLsb' 8 8 ++ x.extractLsb' 0 8 := by
    refine BitVec.eq_of_toNat_eq ?_
    rw [append_toNat, BitVec.extractLsb'_toNat, BitVec.extractLsb'_toNat, Nat.shiftRight_eq_div_pow]
    simp only [Nat.shiftRight_zero]
    omega
  rw [split c, split d, h.1, h.2]

theorem frameGood_iff (bs : List Byte) : frameGood bs = true ↔ lengthField bs ≤ 248 ∧ bs.length = 8 + lengthField bs
    ∧ bs.drop (6 + lengthField bs) = checkBytes (crc (bs.take (6 + lengthField bs))) := by
  simp only [frameGood, Bool.and_eq_true, decide_eq_true_eq]
  constructor
  · rintro ⟨⟨⟨-, a⟩, b⟩, c⟩; exact ⟨a, b, c⟩
  · rintro ⟨a, b, c⟩; exact ⟨⟨⟨by omega, a⟩, b⟩, c⟩

/-- A formed frame byte by byte: the six bytes of its header, its payload and its check. -/
theorem formFrame_eq (code dst src seq : Byte) (payload : List Byte) : ∃ c : BitVec 16,
    formFrame code dst src seq payload = code :: dst :: src :: seq :: BitVec.ofNat 8 (payload.length / 256)
      :: BitVec.ofNat 8 payload.length :: (payload ++ checkBytes c) := ⟨_, rfl⟩

/-- The length field of a formed frame reads back as the payload's length. -/
theorem lengthField_formFrame (code dst src seq : Byte) (payload : List Byte) (h : payload.length ≤ 248) :
    lengthField (formFrame code dst src seq payload) = payload.length := by
  obtain ⟨c, e⟩ := formFrame_eq code dst src seq payload
  rw [e]
  exact bytes_toNat (by omega)

theorem formed_good (code dst src seq : Byte) (payload : List Byte) (h : payload.length ≤ 248) :
    frameGood (formFrame code dst src seq payload) = true
      ∧ framePayload (formFrame code dst src seq payload) = payload := by
  have len := lengthField_formFrame code dst src seq payload h
  have body : ([code, dst, src, seq] ++ be 2 payload.length ++ payload).length = 6 + payload.length := by simp; omega
  refine ⟨(frameGood_iff _).2 ⟨by omega, ?_, ?_⟩, ?_⟩
  · rw [formFrame_length, len]; omega
  · rw [len]
    unfold formFrame
    dsimp only
    rw [← body, List.drop_left, List.take_left]
  · obtain ⟨c, e⟩ := formFrame_eq code dst src seq payload
    unfold framePayload
    rw [len, e]
    exact List.take_left

/-- The complement of a check never passes. -/
theorem complement_ne (c : BitVec 16) : ~~~ c ≠ c := by
  intro h
  have := congrArg (·.getLsbD 0) h
  simp at this

theorem poisoned_bad (bs : List Byte) (n : Nat) : frameGood (poisonedCopy bs n).bytes = false := by
  rw [← Bool.not_eq_true, frameGood_iff]
  rintro ⟨-, len, check⟩
  set L := lengthField (poisonedCopy bs n).bytes with hL
  have sent : (bs.take n).length = 6 + L := by
    have : (poisonedCopy bs n).bytes.length = (bs.take n).length + 2 := by simp [poisonedCopy]
    omega
  unfold poisonedCopy at check
  dsimp only at check
  rw [← sent, List.drop_left, List.take_left] at check
  exact complement_ne _ (checkBytes_injective check)

/-- Settles O12, by the length field of a formed frame and by the complemented check of a poisoned one. -/
theorem formedFramesPassPoisonedFail : Obligations.FormedFramesPassPoisonedFail := ⟨formed_good, poisoned_bad⟩

/-! ### Replies and notices enter the up insert queue (R7, R14, R17, R189, R199) -/

/-- The byte of a word from bit `k` on, as the encoder computes it. -/
theorem byte_of_word {n : Nat} (w : BitVec n) (k : Nat) : BitVec.ofNat 8 (w.toNat / 2 ^ k) = w.extractLsb' k 8 := by
  refine BitVec.eq_of_toNat_eq ?_
  rw [BitVec.extractLsb'_toNat, Nat.shiftRight_eq_div_pow, BitVec.toNat_ofNat]

theorem low_byte_of_word {n : Nat} (w : BitVec n) : BitVec.ofNat 8 w.toNat = w.extractLsb' 0 8 := by
  simpa using byte_of_word w 0

/-- Two bytes of a word, high byte first. -/
theorem be_two_word (w : BitVec 16) : be 2 w.toNat = [w.extractLsb' 8 8, w.extractLsb' 0 8] := by
  rw [be_two, low_byte_of_word, ← byte_of_word w 8]
  rfl

/-- Four bytes of a part time, high byte first. -/
theorem be_four_time (w : PartTime) : be 4 w.toNat
    = [w.extractLsb' 24 8, w.extractLsb' 16 8, w.extractLsb' 8 8, w.extractLsb' 0 8] := by
  rw [← low_byte_of_word, ← byte_of_word w 8, ← byte_of_word w 16, ← byte_of_word w 24]
  simp only [be, List.nil_append, List.cons_append, Nat.div_div_eq_div_mul]
  rfl

theorem State.upRoom_eq_false {s : State} (h : s.portS.up = false ∨ 16 ≤ s.portS.ins.length) : s.upRoom = false := by
  rw [← Bool.not_eq_true, State.upRoom_iff]
  rintro ⟨up, room⟩
  rcases h with h | h
  · rw [up] at h; cases h
  · omega

theorem enterUp_enters {s : State} (full : s.fullNode = true) (room : s.upRoom = true) (kind : InsertKind) (code dst : Byte)
    (payload : List Byte) : s.enterUp kind code dst payload = { s with portS := { s.portS with
      ins := s.portS.ins ++ [⟨kind, formFrame code dst s.addr s.portS.seq payload⟩], seq := s.portS.seq + 1 } } := by
  simp only [State.enterUp, full, room, Bool.not_true, Bool.false_eq_true, if_false, if_true]

theorem enterUp_drops {s : State} (full : s.fullNode = true) (room : s.upRoom = false) (kind : InsertKind) (code dst : Byte)
    (payload : List Byte) : s.enterUp kind code dst payload = s.countUpDrop kind := by
  simp only [State.enterUp, full, room, Bool.not_true, Bool.false_eq_true, if_false]

/-- Settles O13, from entering the up insert queue and the layouts of the two payloads. -/
theorem repliesAndNoticesEnterOrAreCounted : Obligations.RepliesAndNoticesEnterOrAreCounted := by
  refine fun s full => ⟨fun up room => ⟨fun rq kind restart a => ?_, fun n => ?_⟩, fun h => ⟨fun _ _ _ _ => ?_, fun _ => ?_⟩⟩
  · unfold State.reply replyPayload
    rw [enterUp_enters full (s.upRoom_iff.2 ⟨up, room⟩), be_two_word]
    rfl
  · unfold State.notice Notice.payload
    rw [enterUp_enters full (s.upRoom_iff.2 ⟨up, room⟩), be_four_time]
    cases n.stage <;> rfl
  · exact enterUp_drops full (State.upRoom_eq_false h) ..
  · exact enterUp_drops full (State.upRoom_eq_false h) ..

end Sys2Proof.Machine
end

section
/-! How a request is answered, what one record's change leaves, and what the clamps and readers give: BLOCK and UNBLOCK,
the settings of WRITE STAGE, scaling, READ MEASUREMENTS. -/

namespace Sys2Proof.Machine

/-! ### A request that is carried out -/

/-- A request row whose execution is known ends in its state with its answer as a reply. -/
theorem request_answers {s t : State} {a : Answer} {f : State → State × Answer} (h : s.executes) (rq : Requester) (kind : Byte)
    (e : f s = (t, a)) :
    (Host.Outcome.next (s.request rq kind f) : Host.Outcome State Fault Refusal) = .next (t.reply rq kind false a) := by
  rw [State.request_of_executes h, e]

/-! ### One record changed, and notices -/

/-- `t` is `s` with the record of stage `k` replaced by `b`, and notices sent. -/
def Records (s : State) (k : StageIx) (b : Stage) (t : State) : Prop := onlyNoticed (s.modStage k fun _ => b) t

theorem Records.own {s t : State} {k : StageIx} {b : Stage} (h : Records s k b t) : t.stage k = b := by
  rw [Records, onlyNoticed] at h
  rw [h]
  exact State.modStage_stage s k fun _ => b

theorem Records.other {s t : State} {k : StageIx} {b : Stage} (h : Records s k b t) {j : StageIx} (hj : j ≠ k) :
    t.stage j = s.stage j := by
  rw [Records, onlyNoticed] at h
  rw [h]
  exact State.modStage_stage_ne s (fun _ => b) hj

theorem Records.only {s t : State} {k : StageIx} {b : Stage} (h : Records s k b t) : onlyNoticed { s with stages := t.stages } t := by
  obtain ⟨_, _, _, rfl⟩ := onlyNoticed_iff.1 h
  rfl

theorem Records.switched {s t : State} {k : StageIx} {b : Stage} (h : Records s k b t) : onlySwitched s t :=
  onlySwitched_of_stages h

theorem State.modStage_modStage (s : State) (k : StageIx) (f g : Stage → Stage) :
    (s.modStage k f).modStage k g = s.modStage k fun a => g (f a) := by
  simp only [State.modStage, Vector.getElem_set_self, Vector.set_set, Fin.getElem_fin]

theorem onlyNoticed.modStage {s t : State} (h : onlyNoticed s t) (k : StageIx) (f : Stage → Stage) :
    onlyNoticed (s.modStage k f) (t.modStage k f) := by
  obtain ⟨_, _, _, rfl⟩ := onlyNoticed_iff.1 h
  rfl

theorem Records.trans {s t u : State} {k : StageIx} {b c : Stage} (h : Records s k b t) (g : Records t k c u) : Records s k c u := by
  have again := onlyNoticed.modStage h k fun _ => c
  rw [State.modStage_modStage] at again
  exact onlyNoticed_trans again g

theorem Records.refl {s : State} {k : StageIx} {b : Stage} (h : s.stage k = b) : Records s k b s := by
  rw [Records, State.modStage_self s k h.symm]
  exact onlyNoticed_refl s

theorem modStage_records (s : State) (k : StageIx) (f : Stage → Stage) : Records s k (f (s.stage k)) (s.modStage k f) := rfl

theorem modStage_notice_records (s : State) (k : StageIx) (f : Stage → Stage) (n : Notice) :
    Records s k (f (s.stage k)) ((s.modStage k f).notice n) := notice_only _ n

theorem changeStage_records (s : State) (k : StageIx) (f : Stage → Stage) : Records s k (f (s.stage k)) (s.changeStage k f) :=
  changeStage_only s k f

/-! ### Stage records (R75, R81) -/

/-- Settles O32: it is what `changeStage` is. -/
theorem stageChangeSendsOneNotice : Obligations.StageChangeSendsOneNotice := fun _ _ _ => rfl

theorem doBlock_answer (s : State) {k : StageIx} {b : Byte} (hb : b.toNat = k.val) (v : Bool) :
    s.doBlock v b = (if (s.stage k).blocked = v then s else
      State.notice { s with stages := s.stages.set k { s.stage k with blocked := v } }
        (.stageState k (s.stage k).state (s.stage k).state (s.stage k).reported v (s.stage k).silent
          (s.stage k).lockoutPending (s.stage k).awaiting), doneWith []) := by
  unfold State.doBlock
  rw [stageOfByte_of_val hb]
  refine Prod.ext ((stageChangeSendsOneNotice s k fun a => { a with blocked := v }).trans ?_) rfl
  dsimp only
  by_cases hv : (s.stage k).blocked = v
  · rw [if_pos ⟨rfl, rfl, hv⟩, if_pos hv]
    refine State.modStage_self s k (f := fun _ => { s.stage k with blocked := v }) ?_
    rw [← hv]
  · rw [if_neg fun h => hv h.2.2, if_neg hv]

theorem doBlock_large (s : State) {b : Byte} (hb : 23 < b.toNat) (v : Bool) : s.doBlock v b = (s, refused .index) := by
  unfold State.doBlock
  rw [stageOfByte_of_large hb]

/-- Settles O36. -/
theorem blockAndUnblock : Obligations.BlockAndUnblock := fun s rq h =>
  ⟨fun _ hb => ⟨request_answers h rq _ (doBlock_large s hb true), request_answers h rq _ (doBlock_large s hb false)⟩,
   fun _ _ hb => ⟨request_answers h rq _ (doBlock_answer s hb true), request_answers h rq _ (doBlock_answer s hb false)⟩⟩

/-! ### Clamping (R64) -/

theorem clampNat_eq {lo hi : Nat} (h : lo ≤ hi) (n : Nat) : clampNat lo hi n = max lo (min n hi) := by
  unfold clampNat
  split <;> [skip; split] <;> omega

theorem clampInt_eq {lo hi : Int} (h : lo ≤ hi) (x : Int) : clampInt lo hi x = max lo (min x hi) := by
  unfold clampInt
  split <;> [skip; split] <;> omega

theorem mem_distinct_foldl (l : List Nat) : ∀ (acc : List Nat) (x : Nat),
    x ∈ l.foldl (fun acc x => if x ∈ acc then acc else acc ++ [x]) acc ↔ x ∈ acc ∨ x ∈ l := by
  induction l with
  | nil => simp
  | cons y l ih =>
    intro acc x
    rw [List.foldl_cons, ih]
    split
    · next h => grind
    · simp only [List.mem_append, List.mem_cons, List.not_mem_nil, or_false, or_assoc]

theorem nodup_distinct_foldl (l : List Nat) : ∀ acc : List Nat, acc.Nodup →
    (l.foldl (fun acc x => if x ∈ acc then acc else acc ++ [x]) acc).Nodup := by
  induction l with
  | nil => exact fun _ h => h
  | cons y l ih =>
    intro acc h
    refine ih _ ?_
    dsimp only
    split
    · exact h
    · next new => exact List.nodup_append.2 ⟨h, List.nodup_singleton y, fun a ha b hb e => new (by simp_all)⟩

theorem mem_distinct (l : List Nat) (x : Nat) : x ∈ distinct l ↔ x ∈ l :=
  (mem_distinct_foldl l [] x).trans (by simp)

theorem nodup_distinct (l : List Nat) : (distinct l).Nodup := nodup_distinct_foldl l [] List.nodup_nil

/-- Settles O33: each setting is a clamp, and the set of orders is kept without its repetitions. -/
theorem writeStageClampsItsSettings : Obligations.WriteStageClampsItsSettings := by
  intro w
  have zero (hi n : Nat) : clampNat 0 hi n = min n hi := by rw [clampNat_eq (Nat.zero_le hi), Nat.zero_max]
  refine ⟨rfl, zero _ _, clampNat_eq (by omega) _, clampNat_eq (by omega) _, clampNat_eq (by omega) _, clampNat_eq (by omega) _,
    congrArg (max _) (clampNat_eq (by omega) _), clampNat_eq (by omega) _, zero _ _, clampNat_eq (by omega) _, zero _ _,
    fun x hx => ?_, fun hx => ?_, fun hu => if_pos hu, fun hu => ?_, fun h0 h255 => ?_, nodup_distinct _, fun h => ?_⟩
  · simp only [clampedStage, hx, Option.map_some, clampInt_eq (show (-4096 : Int) ≤ 4095 by omega)]
  · simp only [clampedStage, hx, Option.map_none]
  · simp [clampedStage, hu]
  · exact (if_neg h0).trans (if_neg h255)
  · exact (mem_distinct _ _).trans List.mem_map

/-! ### Scaling (R32, R34) -/

/-- Settles O22: a slot value is floored, then clamped. -/
theorem scalingFloorsAndSaturates : Obligations.ScalingFloorsAndSaturates := by
  refine ⟨fun e f => ?_, fun e f raw good present => ?_⟩
  · unfold entrySample
    split
    · next h => simp [h]
    · next h => simp [h]
  · refine ⟨_, _, by rw [entrySample, if_neg good, present]; rfl, ?_⟩
    rw [clampInt_eq (by omega)]
    refine ⟨by omega, by omega, fun q low high => ?_⟩
    have floor : scaledRaw raw e.gain = q := by unfold scaledRaw; omega
    rw [floor, decide_eq_true_eq]
    omega

/-! ### READ MEASUREMENTS (R62) -/

theorem encFreq_length (f : Option Freq) : (encFreq f).length = 9 := by cases f <;> simp [encFreq]

theorem encTracker_length (s : State) : s.encTracker.length = 12 := by simp [State.encTracker, encFreq_length]

/-- Settles O31. -/
theorem readMeasurementsAnswers : Obligations.ReadMeasurementsAnswers := by
  refine ⟨fun b r => ?_, fun s rq selector codes h => ?_⟩
  · unfold measuredRole
    cases roleOfCode b <;> simp
  · show Host.Outcome.next (s.request rq 0x02 (State.doReadMeasurements selector codes)) = _
    rw [State.request_of_executes h, doReadMeasurements_state]
    unfold State.doReadMeasurements
    rw [encTracker_length]
    by_cases count : codes.length = 0 ∨ 4 < codes.length
    · rw [if_pos count, if_pos count]
    · rw [if_neg count, if_neg count]
      by_cases slot : selector ≠ 0 ∧ selector ≠ 1
      · rw [if_pos slot, if_pos (.inl slot)]
      · rw [if_neg slot]
        by_cases known : (codes.any fun b => (measuredRole b).isNone) = true
        · rw [if_pos known, if_pos (.inr known)]
        · rw [if_neg known, if_neg (not_or.2 ⟨slot, known⟩)]

end Sys2Proof.Machine
end

section
/-! WRITE STAGE and RELEASE: the checks in their order and the record each leaves. -/

namespace Sys2Proof.Machine

/-! ### What clearing a flag, a counter or a capture leaves (R66, R82, R128, R134, R143, R144, R159, R160) -/

theorem clearAlarm_records (s : State) (k : StageIx) (c : ClearCause) (u : Option Nat) (w : Option WindowIx) :
    Records s k { s.stage k with unbalanceAlarm := false } (s.clearAlarm k c u w) := by
  unfold State.clearAlarm
  split
  · exact modStage_notice_records s k (fun a => { a with unbalanceAlarm := false }) _
  · next h => exact .refl (by rw [Bool.not_eq_true] at h; rw [← h])

theorem clearAlarmUnlessLocked_records (s : State) (k : StageIx) (c : ClearCause) (u : Option Nat) (w : Option WindowIx) :
    Records s k { s.stage k with unbalanceAlarm := (s.stage k).unbalanceAlarm && lockoutKeeps (s.stage k) }
      (s.clearAlarmUnlessLocked k c u w) := by
  unfold State.clearAlarmUnlessLocked
  split
  · next h => exact .refl (by rw [h, Bool.and_true])
  · next h =>
    rw [Bool.not_eq_true] at h
    rw [h, Bool.and_false]
    exact clearAlarm_records s k c u w

theorem clearOverload_records (s : State) (k : StageIx) (c : ClearCause) :
    Records s k { s.stage k with overload := false } (s.clearOverload k c) := by
  unfold State.clearOverload
  split
  · exact modStage_notice_records s k (fun a => { a with overload := false }) _
  · next h => exact .refl (by rw [Bool.not_eq_true] at h; rw [← h])

theorem clearBar_records (s : State) (k : StageIx) (w : Option WindowIx) :
    Records s k { s.stage k with bar := false, barCount := if (s.stage k).bar then 0 else (s.stage k).barCount }
      (s.clearBar k w) := by
  unfold State.clearBar
  split
  · next h =>
    exact modStage_notice_records s k (fun a => { a with bar := false, barCount := 0 }) _
  · next h => exact .refl (by rw [Bool.not_eq_true] at h; rw [← h])

theorem abandonCapture_records (s : State) (k : StageIx) (e : Abandon) :
    Records s k { s.stage k with unb := { (s.stage k).unb with capture := none } } (s.abandonCapture k e) := by
  unfold State.abandonCapture
  split
  · exact modStage_notice_records s k (fun a => { a with unb := { a.unb with capture := none } }) _
  · next h => exact .refl (by rw [← h])

/-- The record after the three flags are cleared. -/
def Stage.unflagged (a : Stage) : Stage :=
  { a with unbalanceAlarm := false, overload := false, bar := false, barCount := if a.bar then 0 else a.barCount }

theorem clearFlags_records (s : State) (k : StageIx) (c d : ClearCause) (w : Option WindowIx) :
    Records s k (s.stage k).unflagged (((s.clearAlarm k c none none).clearOverload k d).clearBar k w) := by
  have alarm := clearAlarm_records s k c none none
  have overload := clearOverload_records (s.clearAlarm k c none none) k d
  have bar := clearBar_records ((s.clearAlarm k c none none).clearOverload k d) k w
  rw [alarm.own] at overload
  rw [(alarm.trans overload).own] at bar
  exact (alarm.trans overload).trans bar

/-- The record after the counters of the unbalance element are cleared, and its alarm outside a lockout. -/
def Stage.unbalanceCleared (a : Stage) : Stage :=
  { a with
    unb := { a.unb with alarmCount := 0, tripCount := 0 }
    unbalanceAlarm := a.unbalanceAlarm && lockoutKeeps a }

theorem unbalanceSettings_records (s : State) (k : StageIx) :
    Records s k (s.stage k).unbalanceCleared (s.unbalanceSettings k) := by
  have counts := modStage_records s k fun a => { a with unb := { a.unb with alarmCount := 0, tripCount := 0 } }
  have alarm := clearAlarmUnlessLocked_records
    (s.modStage k fun a => { a with unb := { a.unb with alarmCount := 0, tripCount := 0 } }) k .settings none none
  rw [counts.own] at alarm
  exact counts.trans alarm

theorem overloadSettings_records (s : State) (k : StageIx) :
    Records s k { s.stage k with overCount := 0, overload := false } (s.overloadSettings k) := by
  have counts := modStage_records s k fun a => { a with overCount := 0 }
  have flag := clearOverload_records (s.modStage k fun a => { a with overCount := 0 }) k .settings
  rw [counts.own] at flag
  exact counts.trans flag

/-- An operation on a record that is carried out under a condition. -/
theorem Records.ite {s t : State} {k : StageIx} {b : Stage} {c : Bool} (h : Records s k b t) :
    Records s k (if c then b else s.stage k) (if c then t else s) := by
  cases c
  · exact .refl rfl
  · exact h

/-! ### WRITE STAGE (R64 to R66) -/

/-- What a WRITE STAGE leaves of a record until its flags and counters are looked at. -/
def Stage.standing (a : Stage) : Bool × Option InFlight × Bool × Bool × Bool × Nat × Nat × UnbalanceState :=
  (a.blocked, a.inFlight, a.unbalanceAlarm, a.overload, a.bar, a.barCount, a.overCount, a.unb)

theorem enableStage_standing (now : PartTime) (a : Stage) :
    (enableStage now a).cfg = a.cfg ∧ (enableStage now a).standing = a.standing := by
  unfold enableStage
  split <;> exact ⟨rfl, rfl⟩

theorem writtenStage_standing (now : PartTime) (c : StageSettings) (a : Stage) :
    (writtenStage now c a).cfg = c ∧ (writtenStage now c a).standing = a.standing := by
  have stored : ({ (if a.cfg.unit = c.unit then a else readdressStage a) with cfg := c } : Stage).standing = a.standing := by
    split <;> rfl
  unfold writtenStage
  dsimp only
  split
  · exact ⟨(enableStage_standing now _).1, (enableStage_standing now _).2.trans stored⟩
  · split
    · exact ⟨rfl, stored⟩
    · split <;> exact ⟨rfl, stored⟩

/-- The in-service list after a change of the unit address. -/
def State.readdressed (s : State) (k : StageIx) (c : StageSettings) : State :=
  if (s.stage k).cfg.unit = c.unit then s else { s with inService := s.inService.erase k }

theorem State.readdressed_stage (s : State) (k : StageIx) (c : StageSettings) (j : StageIx) :
    (s.readdressed k c).stage j = s.stage j := by
  unfold State.readdressed; split <;> rfl

/-- The record a WRITE STAGE leaves. -/
def writeLeaves (x : Stage) (off levels thd : Bool) : Stage :=
  { x with
    unbalanceAlarm := x.unbalanceAlarm && !off && (!levels || x.state == .lockedOut || x.lockoutPending)
    overload := x.overload && !off && !thd
    bar := x.bar && !off
    barCount := if off && x.bar then 0 else x.barCount
    overCount := if thd then 0 else x.overCount
    unb := { x.unb with
      alarmCount := if levels then 0 else x.unb.alarmCount
      tripCount := if levels then 0 else x.unb.tripCount
      capture := none } }

theorem applyStage_records (s : State) (k : StageIx) (c : StageSettings) :
    Records (s.readdressed k c) k
      (writeLeaves (writtenStage s.now c (s.stage k)) ((s.stage k).cfg.enabled && !c.enabled)
        (unbalanceDiffers (s.stage k).cfg c) (thdDiffers (s.stage k).cfg c)) (s.applyStage k c) := by
  unfold State.applyStage
  dsimp only
  rw [← State.readdressed]
  set a := s.stage k with ha
  set x := writtenStage s.now c a with hx
  have stored : Records (s.readdressed k c) k x ((s.readdressed k c).changeStage k (writtenStage s.now c)) := by
    have := changeStage_records (s.readdressed k c) k (writtenStage s.now c)
    rwa [State.readdressed_stage] at this
  generalize (s.readdressed k c).changeStage k (writtenStage s.now c) = s2 at stored ⊢
  have off := (clearFlags_records s2 k .disabled .disabled none).ite (c := a.cfg.enabled && !c.enabled)
  generalize (if (a.cfg.enabled && !c.enabled) = true
    then ((s2.clearAlarm k .disabled none none).clearOverload k .disabled).clearBar k none else s2) = s3 at off ⊢
  rw [stored.own] at off
  replace off := stored.trans off
  have levels := (unbalanceSettings_records s3 k).ite (c := unbalanceDiffers a.cfg c)
  generalize (if unbalanceDiffers a.cfg c = true then s3.unbalanceSettings k else s3) = s4 at levels ⊢
  rw [off.own] at levels
  replace levels := off.trans levels
  have thd := (overloadSettings_records s4 k).ite (c := thdDiffers a.cfg c)
  generalize (if thdDiffers a.cfg c = true then s4.overloadSettings k else s4) = s5 at thd ⊢
  rw [levels.own] at thd
  replace thd := levels.trans thd
  have capture := abandonCapture_records s5 k .write
  rw [thd.own] at capture
  replace capture := thd.trans capture
  convert capture using 1
  unfold writeLeaves Stage.unbalanceCleared Stage.unflagged lockoutKeeps
  cases (a.cfg.enabled && !c.enabled) <;> cases unbalanceDiffers a.cfg c <;> cases thdDiffers a.cfg c <;> simp

theorem doWriteStage_refuses {s : State} {w : StageWrite} (few : w.orders.length ≤ 14) {k : StageIx} {b : Byte}
    (hb : b.toNat = k.val) {r : Reason} (hc : s.writeStageCheck k (clampedStage w) = some r) :
    s.doWriteStage b w = (s, refusedAt r b) := by
  rw [State.doWriteStage, if_neg (by omega), stageOfByte_of_val hb]
  dsimp only
  rw [hc]

theorem doWriteStage_applies {s : State} {w : StageWrite} (few : w.orders.length ≤ 14) {k : StageIx} {b : Byte}
    (hb : b.toNat = k.val) (hc : s.writeStageCheck k (clampedStage w) = none) :
    s.doWriteStage b w = (s.applyStage k (clampedStage w), carried (stageBrought w) []) := by
  rw [State.doWriteStage, if_neg (by omega), stageOfByte_of_val hb]
  dsimp only
  rw [hc]

/-- One check of a list that is gone through in order: it refuses, or the rest of the list decides. -/
theorem check_first {P Q : Prop} {dP : Decidable P} {dQ : Decidable Q} {α : Type} {x rest o : α} {X Y : Prop} (e : P ↔ Q)
    (h : (if Q then x else rest) = o) (yes : x = o → X) (no : ¬ P → rest = o → Y) : if P then X else Y := by
  by_cases p : P
  · rw [if_pos p]; rw [if_pos (e.1 p)] at h; exact yes h
  · rw [if_neg p]; rw [if_neg (mt e.2 p)] at h; exact no p h

/-- Settles O34: each check of the model is the check of R65, and they stand in its order. -/
theorem writeStageChecksInOrder : Obligations.WriteStageChecksInOrder := by
  intro s rq w h
  refine ⟨fun many b => request_answers h rq _ (if_pos many), fun few => ⟨fun b hb => request_answers h rq _ ?_, ?_⟩⟩
  · unfold State.doWriteStage
    rw [if_neg (by omega), stageOfByte_of_large hb]
  intro k b hb
  have stored := applyStage_records s k (clampedStage w)
  have cfg := (writtenStage_standing s.now (clampedStage w) (s.stage k)).1
  have refuses (r : Reason) (e : some r = s.writeStageCheck k (clampedStage w)) :
      exec (.writeStage rq b w) s = .next (s.reply rq 0x11 false (refusedAt r b)) :=
    request_answers h rq _ (doWriteStage_refuses few hb e.symm)
  have applies (e : none = s.writeStageCheck k (clampedStage w)) : exec (.writeStage rq b w) s
      = .next ((s.applyStage k (clampedStage w)).reply rq 0x11 false (carried (stageBrought w) [])) :=
    request_answers h rq _ (doWriteStage_applies few hb e.symm)
  generalize hc : s.writeStageCheck k (clampedStage w) = o at refuses applies
  unfold State.writeStageCheck reportedAfter at hc
  have orders : ((clampedStage w).orders.any fun h => decide (h < 2 ∨ 15 < h)) = true ↔ ∃ h ∈ w.orders, h.toNat < 2 ∨ 15 < h.toNat := by
    simp only [List.any_eq_true, decide_eq_true_eq, clampedStage, mem_distinct, List.mem_map]
    exact ⟨by rintro ⟨_, ⟨b, hb, rfl⟩, hx⟩; exact ⟨b, hb, hx⟩, by rintro ⟨b, hb, hx⟩; exact ⟨_, ⟨b, hb, rfl⟩, hx⟩⟩
  set c := clampedStage w with hcw
  set a := s.stage k with ha
  dsimp only at hc ⊢
  refine check_first orders.symm hc (refuses _) fun _ hc => ?_
  refine check_first (by simp) hc (refuses _) fun _ hc => ?_
  refine check_first (by simp [State.running, State.stageBusy, State.inFlightOf, Option.isSome_iff_ne_none, ← ha]) hc (refuses _)
    fun _ hc => ?_
  refine check_first (by simp [or_assoc, and_assoc]) hc (refuses _) fun _ hc => ?_
  refine check_first (by simp [and_assoc, and_comm, ← Option.ne_none_iff_isSome]) hc (refuses _) fun _ hc => ?_
  refine check_first (by simp [State.running, and_assoc, and_comm, and_left_comm, ← Option.ne_none_iff_isSome]) hc (refuses _) fun _ hc => ?_
  refine check_first (by simp [State.running, and_assoc]) hc (refuses _) fun _ hc => ?_
  refine check_first (by simp [mem_allStages, and_assoc]) hc (refuses _) fun _ hc => ?_
  refine ⟨_, applies hc, ?_, fun j hj => ?_, ?_⟩
  · rw [stored.own]; exact cfg
  · rw [stored.other hj, State.readdressed_stage]
  · obtain ⟨_, _, _, e⟩ := onlyNoticed_iff.1 stored
    rw [e]
    unfold State.readdressed
    split <;> rfl

/-- The record with its settings and its unit address, before enabling and disabling act. -/
def Stage.rewritten (a : Stage) (c : StageSettings) : Stage :=
  { (if a.cfg.unit = c.unit then a else readdressStage a) with cfg := c }

theorem writtenStage_enables {now : PartTime} {c : StageSettings} {a : Stage} (ha : a.cfg.enabled = false) (hc : c.enabled = true) :
    writtenStage now c a = enableStage now (a.rewritten c) := if_pos (by rw [ha, hc]; rfl)

theorem writtenStage_disables {now : PartTime} {c : StageSettings} {a : Stage} (ha : a.cfg.enabled = true) (hc : c.enabled = false) :
    writtenStage now c a = disableStage (a.rewritten c) :=
  (if_neg (by rw [ha, hc]; decide)).trans (if_pos (by rw [ha, hc]; rfl))

theorem writtenStage_moves {now : PartTime} {c : StageSettings} {a : Stage} (ha : a.cfg.enabled = true) (hc : c.enabled = true)
    (hu : a.cfg.unit ≠ c.unit) : writtenStage now c a = awaitStage now (a.rewritten c) :=
  (if_neg (by rw [ha, hc]; decide)).trans ((if_neg (by rw [ha, hc]; decide)).trans (if_pos (by simp [hc, hu])))

theorem writtenStage_stays {now : PartTime} {c : StageSettings} {a : Stage} (he : a.cfg.enabled = c.enabled)
    (hu : a.cfg.unit = c.unit ∨ c.enabled = false) : writtenStage now c a = a.rewritten c :=
  (if_neg (by rw [he]; simp)).trans ((if_neg (by rw [he]; simp)).trans (if_neg (by
    rcases hu with hu | hu <;> simp [hu])))

theorem enableStage_report (now : PartTime) (a : Stage) :
    (enableStage now a).reported = a.reported ∧ (enableStage now a).stable = a.stable
      ∧ (enableStage now a).arrival = a.arrival ∧ (enableStage now a).moving = a.moving := by
  unfold enableStage
  split <;> exact ⟨rfl, rfl, rfl, rfl⟩

/-- The report a WRITE STAGE leaves is the one it finds once the address is changed. -/
theorem writtenStage_report (now : PartTime) (c : StageSettings) (a : Stage) :
    let b := writtenStage now c a
    let d := a.rewritten c
    b.reported = d.reported ∧ b.stable = d.stable ∧ b.arrival = d.arrival ∧ (d.moving = none → b.moving = none) := by
  dsimp only
  cases ha : a.cfg.enabled <;> cases hc : c.enabled
  · rw [writtenStage_stays (ha.trans hc.symm) (.inr hc)]
    exact ⟨rfl, rfl, rfl, id⟩
  · rw [writtenStage_enables ha hc]
    obtain ⟨h1, h2, h3, h4⟩ := enableStage_report now (a.rewritten c)
    exact ⟨h1, h2, h3, fun h => h4.trans h⟩
  · rw [writtenStage_disables ha hc]
    exact ⟨rfl, rfl, rfl, fun _ => rfl⟩
  · by_cases hu : a.cfg.unit = c.unit
    · rw [writtenStage_stays (ha.trans hc.symm) (.inl hu)]
      exact ⟨rfl, rfl, rfl, id⟩
    · rw [writtenStage_moves ha hc hu]
      exact ⟨rfl, rfl, rfl, id⟩

theorem Stage.rewritten_same {a : Stage} {c : StageSettings} (hu : a.cfg.unit = c.unit) : a.rewritten c = { a with cfg := c } := by
  rw [Stage.rewritten, if_pos hu]

theorem Stage.rewritten_moved {a : Stage} {c : StageSettings} (hu : a.cfg.unit ≠ c.unit) :
    a.rewritten c = { readdressStage a with cfg := c } := by rw [Stage.rewritten, if_neg hu]

/-- Settles O35, from the record that is written and from what is cleared after it. -/
theorem writeStageActsOnLiveState : Obligations.WriteStageActsOnLiveState := by
  refine ⟨fun now c a => ?_, fun s rq k b w h hb few passes => ⟨s.applyStage k (clampedStage w), ?_, ?_, ?_⟩⟩
  · obtain ⟨cfg, standing⟩ := writtenStage_standing now c a
    obtain ⟨reported, stable, arrival, moving⟩ := writtenStage_report now c a
    refine ⟨cfg, congrArg Prod.fst standing, congrArg (·.2.1) standing, fun hu => ?_, fun hu => ?_, fun ha hc => ?_,
      fun ha hc => ?_, fun ha hc hu => ?_, fun he hu => ?_⟩
    · rw [Stage.rewritten_moved hu] at reported stable arrival moving
      exact ⟨reported, stable, arrival, moving rfl⟩
    · rw [Stage.rewritten_same hu] at reported stable arrival
      exact ⟨reported, stable, arrival⟩
    · rw [reported, writtenStage_enables ha hc]
      have full : fullCooldown (a.rewritten c) = c.cooldown * 1000 := rfl
      unfold enableStage awaitStage
      cases hr : (a.rewritten c).reported with
      | none => simp [full]
      | some pos => cases pos <;> simp [full]
    · rw [writtenStage_disables ha hc]
      exact ⟨rfl, rfl, rfl, rfl, rfl, rfl⟩
    · rw [writtenStage_moves ha hc hu]
      exact ⟨rfl, rfl, rfl⟩
    · rw [writtenStage_stays he (.inl hu), Stage.rewritten_same hu]
  · exact request_answers h rq _ (doWriteStage_applies few hb passes)
  · rw [(applyStage_records s k (clampedStage w)).own]
    have standing := (writtenStage_standing s.now (clampedStage w) (s.stage k)).2
    simp only [Stage.standing, Prod.mk.injEq] at standing
    obtain ⟨-, -, alarm, overload, bar, barCount, overCount, unb⟩ := standing
    unfold writeLeaves
    rw [alarm, overload, bar, barCount, overCount, unb]
    rfl
  · obtain ⟨_, _, _, e⟩ := onlyNoticed_iff.1 (applyStage_records s k (clampedStage w))
    rw [e]
    exact apply_ite State.inService ..


/-! ### RELEASE (R82, R83) -/

theorem releaseCheck_eq (s : State) (k : StageIx) : s.releaseCheck k =
    if (s.stage k).state ≠ .lockedOut ∧ (s.stage k).state ≠ .failed then some .state
    else if (s.stage k).state = .lockedOut ∧ (s.stage k).reported ≠ some .open then some .state
    else if (s.stage k).state = .failed ∧ s.stageBusy k = true then some .state
    else if (s.stage k).state = .failed ∧ (s.stage k).reported = some .closed ∧ (s.stage k).lockoutPending = true then some .locked
    else if (s.stage k).state = .failed ∧ (s.stage k).reported ≠ some .open ∧ (s.stage k).reported ≠ some .closed then some .state
    else none := by
  unfold State.releaseCheck
  dsimp only
  by_cases locked : (s.stage k).state = .lockedOut
  · rw [if_pos locked]
    by_cases opened : (s.stage k).reported = some .open <;> simp [locked, opened]
  · rw [if_neg locked]
    by_cases failed : (s.stage k).state = .failed
    · rw [if_pos failed]
      by_cases reached : (s.stage k).reported = some .open ∨ (s.stage k).reported = some .closed
      · rw [if_pos reached, if_neg (c := _ ∧ _ ∧ (s.stage k).reported ≠ some .closed)
          fun h => reached.elim h.2.1 h.2.2]
        simp [failed]
      · rw [if_neg reached]
        simp [failed, not_or.1 reached]
    · rw [if_neg failed]
      simp [locked, failed]

theorem releasedStage_ready (a : Stage) : (releasedStage a).state = .openReady ↔ a.state = .lockedOut ∧ a.cooling = 0 := by
  unfold releasedStage
  dsimp only
  by_cases locked : a.state = .lockedOut
  · by_cases cooled : a.cooling = 0 <;> simp [locked, cooled]
  · rw [if_neg locked]
    by_cases closed : a.reported = some .closed
    · simp [locked, closed]
    · cases a.lockoutPending <;> simp [locked, closed]

/-- Before its selection, a RELEASE leaves the record of R82 and R83 with the flags and the balance capture cleared. -/
def State.releasedOf (s : State) (k : StageIx) : State :=
  (((((s.changeStage k releasedStage).clearAlarm k .release none none).clearOverload k .release).clearBar k none).abandonCapture
    k .release)

theorem releasedOf_records (s : State) (k : StageIx) :
    Records s k { (releasedStage (s.stage k)).unflagged with unb := { (releasedStage (s.stage k)).unb with capture := none } }
      (s.releasedOf k) := by
  have released := changeStage_records s k releasedStage
  have flags := clearFlags_records (s.changeStage k releasedStage) k .release .release none
  rw [released.own] at flags
  have capture := abandonCapture_records
    ((((s.changeStage k releasedStage).clearAlarm k .release none none).clearOverload k .release).clearBar k none) k .release
  rw [flags.own] at capture
  exact (released.trans flags).trans capture

theorem applyRelease_eq (s : State) (k : StageIx) : s.applyRelease k =
    if (s.stage k).state = .lockedOut ∧ (s.stage k).cooling = 0 then (s.releasedOf k).selection else s.releasedOf k := by
  unfold State.applyRelease
  dsimp only
  rw [changeStage_stage]
  exact ite_congr (propext (releasedStage_ready _)) (fun _ => rfl) fun _ => rfl

theorem releasedStage_standing (a : Stage) : (releasedStage a).bar = a.bar ∧ (releasedStage a).barCount = a.barCount
    ∧ (releasedStage a).unb = a.unb := by
  unfold releasedStage
  dsimp only
  split <;> [skip; split] <;> exact ⟨rfl, rfl, rfl⟩

theorem doRelease_refuses {s : State} {k : StageIx} {b : Byte} (hb : b.toNat = k.val) {r : Reason}
    (hc : s.releaseCheck k = some r) : s.doRelease b = (s, refused r) := by
  rw [State.doRelease, stageOfByte_of_val hb]
  dsimp only
  rw [hc]

theorem doRelease_applies {s : State} {k : StageIx} {b : Byte} (hb : b.toNat = k.val) (hc : s.releaseCheck k = none) :
    s.doRelease b = (s.applyRelease k, doneWith []) := by
  rw [State.doRelease, stageOfByte_of_val hb]
  dsimp only
  rw [hc]

/-- Settles O37. -/
theorem releaseByState : Obligations.ReleaseByState := by
  refine ⟨fun s rq h => ⟨fun b hb => request_answers h rq _ ?_, fun k b hb => ?_⟩, fun a => ?_⟩
  · unfold State.doRelease
    rw [stageOfByte_of_large hb]
  · have refuses (r : Reason) (e : some r = s.releaseCheck k) :
        exec (.release rq b) s = .next (s.reply rq 0x14 false (refused r)) :=
      request_answers h rq _ (doRelease_refuses hb e.symm)
    have applies (e : none = s.releaseCheck k) :
        exec (.release rq b) s = .next ((s.applyRelease k).reply rq 0x14 false (doneWith [])) :=
      request_answers h rq _ (doRelease_applies hb e.symm)
    have hc := (releaseCheck_eq s k).symm
    dsimp only
    refine check_first Iff.rfl hc (refuses _) fun _ hc => ?_
    refine check_first Iff.rfl hc (refuses _) fun _ hc => ?_
    refine check_first (by simp [State.stageBusy, State.inFlightOf, Option.isSome_iff_ne_none]) hc (refuses _) fun _ hc => ?_
    refine check_first Iff.rfl hc (refuses _) fun _ hc => ?_
    refine check_first Iff.rfl hc (refuses _) fun _ hc => ?_
    have records := releasedOf_records s k
    refine ⟨s.releasedOf k, ?_, ?_, fun _ => records.other, records.only⟩
    · rw [applies hc, applyRelease_eq]
    · rw [records.own, (releasedStage_standing _).2.2]
      unfold Stage.unflagged
      rw [(releasedStage_standing _).1, (releasedStage_standing _).2.1]
  · unfold releasedStage
    dsimp only
    refine ⟨?_, fun hl => ?_, fun hf ho => ?_, fun hf hr => ?_⟩
    · split <;> [skip; split] <;> rfl
    · rw [if_pos hl]
      exact ⟨rfl, rfl, fun h => if_pos h, fun h => if_neg h⟩
    · rw [if_neg (by rw [hf]; decide), if_neg (by rw [ho]; decide)]
      exact ⟨rfl, rfl, fun h => by simp [h], fun h => by simp [h]⟩
    · rw [if_neg (by rw [hf]; decide), if_pos hr]
      exact ⟨rfl, rfl, rfl⟩


end Sys2Proof.Machine
end

section
/-! The supervisor in any state: how a selection runs out, what it sends and removes, and gathering by its table. -/

namespace Sys2Proof.Machine

/-! ### The second pass (R93) -/

/-- An entry the second pass goes past without touching it. -/
def State.passes (s : State) (e : QueueEntry) : Prop :=
  (e.cls = .protect ∨ (s.inFlightOf e.stage).isSome) ∨
    (e.op = .close ∧ (s.stage e.stage).state = .openReady ∧ (s.stage e.stage).lockoutPending = false ∧ s.closeAllowed = false)

theorem normalEntry_passes {s : State} {e : QueueEntry} (h : s.passes e) (l : List QueueEntry) :
    s.normalEntry (e :: l) = s.normalEntry l := by
  rw [State.normalEntry]
  by_cases busy : e.cls = .protect ∨ (s.inFlightOf e.stage).isSome
  · rw [if_pos busy]
  · obtain ⟨hop, ready, free, paced⟩ := h.resolve_left busy
    rw [if_neg busy, if_neg (by rw [hop]; decide), if_neg (by simp [ready, free]), if_neg (by simp [paced])]

/-- An entry the second pass reaches that is not in the way of a PROTECT entry or of an operation in flight. -/
def State.reaches (s : State) (e : QueueEntry) : Prop := ¬ (e.cls = .protect ∨ (s.inFlightOf e.stage).isSome)

theorem normalEntry_finds {s : State} {e : QueueEntry} (h : s.reaches e) (go : e.op = .open ∨
    ((s.stage e.stage).state = .openReady ∧ (s.stage e.stage).lockoutPending = false ∧ s.closeAllowed = true))
    (l : List QueueEntry) : s.normalEntry (e :: l) = (s, some e) := by
  rw [State.normalEntry, if_neg h]
  by_cases hop : e.op = .open
  · rw [if_pos hop]
  · obtain ⟨ready, free, paced⟩ := go.resolve_left hop
    rw [if_neg hop, if_neg (by simp [ready, free]), if_pos paced]

theorem normalEntry_drops {s : State} {e : QueueEntry} (h : s.reaches e) (hop : e.op = .close)
    (unready : (s.stage e.stage).state ≠ .openReady ∨ (s.stage e.stage).lockoutPending = true) (l : List QueueEntry) :
    s.normalEntry (e :: l) = (s.dropEntry e .notReady).normalEntry l := by
  rw [State.normalEntry, if_neg h, if_neg (by rw [hop]; decide), if_pos unready]

/-- What the second pass does with an entry: past it, to it, or over its removal. -/
theorem normalEntry_cons (s : State) (e : QueueEntry) (l : List QueueEntry) :
    (s.passes e ∧ s.normalEntry (e :: l) = s.normalEntry l) ∨ s.normalEntry (e :: l) = (s, some e)
      ∨ s.normalEntry (e :: l) = (s.dropEntry e .notReady).normalEntry l := by
  by_cases busy : e.cls = .protect ∨ (s.inFlightOf e.stage).isSome
  · exact .inl ⟨.inl busy, normalEntry_passes (.inl busy) l⟩
  cases hop : e.op using Operation.named with
  | opens => exact .inr (.inl (normalEntry_finds busy (.inl hop) l))
  | close =>
    by_cases unready : (s.stage e.stage).state ≠ .openReady ∨ (s.stage e.stage).lockoutPending = true
    · exact .inr (.inr (normalEntry_drops busy hop unready l))
    obtain ⟨ready, free⟩ := not_or.1 unready
    rw [ne_eq, not_not] at ready
    rw [Bool.not_eq_true] at free
    cases paced : s.closeAllowed with
    | true => exact .inr (.inl (normalEntry_finds busy (.inr ⟨ready, free, paced⟩) l))
    | false => exact .inl ⟨.inr ⟨hop, ready, free, paced⟩, normalEntry_passes (.inr ⟨hop, ready, free, paced⟩) l⟩

/-- The second pass finds one of the entries it goes through. -/
theorem normalEntry_mem {e : QueueEntry} : ∀ (l : List QueueEntry) {s : State}, (s.normalEntry l).2 = some e → e ∈ l
  | [], _, h => by cases h
  | x :: l, s, h => by
    rcases normalEntry_cons s x l with ⟨-, hx⟩ | hx | hx <;> rw [hx] at h
    · exact List.mem_cons_of_mem _ (normalEntry_mem l h)
    · exact Option.some.inj h ▸ List.mem_cons_self
    · exact List.mem_cons_of_mem _ (normalEntry_mem l h)

theorem normalEntry_sublist (l : List QueueEntry) (s : State) : (s.normalEntry l).1.queue.Sublist s.queue :=
  normalEntry_frame (P := fun t => t.queue.Sublist s.queue)
    (fun t e h => by rw [dropEntry_queue]; exact List.filter_sublist.trans h) l (List.Sublist.refl _)

theorem normalEntry_stage (l : List QueueEntry) (s : State) (k : StageIx) : (s.normalEntry l).1.stage k = s.stage k := by
  rw [normalEntry_only l s]; rfl

theorem normalEntry_mode (l : List QueueEntry) (s : State) : (s.normalEntry l).1.mode = s.mode := by rw [normalEntry_only l s]

/-- Close pacing looks at nothing a removal touches. -/
theorem closeAllowed_dropEntry (s : State) (e : QueueEntry) (r : DropReason) : (s.dropEntry e r).closeAllowed = s.closeAllowed := by
  have only := dropEntry_only s e r
  have flights : (s.dropEntry e r).closeFlights = s.closeFlights := State.closeFlights_congr (by rw [only])
  unfold State.closeAllowed
  rw [flights, only]

theorem closeAllowed_normalEntry (l : List QueueEntry) (s : State) : (s.normalEntry l).1.closeAllowed = s.closeAllowed :=
  normalEntry_frame (P := fun t => t.closeAllowed = s.closeAllowed)
    (fun t e h => (closeAllowed_dropEntry t e _).trans h) l rfl

theorem normalEntry_passes_all {s : State} (before : List QueueEntry) (h : ∀ x ∈ before, s.passes x) (l : List QueueEntry) :
    s.normalEntry (before ++ l) = s.normalEntry l := by
  induction before with
  | nil => rfl
  | cons x before ih =>
    rw [List.cons_append, normalEntry_passes (h x List.mem_cons_self), ih fun y hy => h y (List.mem_cons_of_mem _ hy)]

theorem passes_dropEntry {s : State} {e x : QueueEntry} {r : DropReason} : (s.dropEntry x r).passes e ↔ s.passes e := by
  unfold State.passes State.inFlightOf
  rw [dropEntry_stage, closeAllowed_dropEntry]

/-- A second pass that finds nothing has left only entries it went past. -/
theorem normalEntry_none {e : QueueEntry} : ∀ (l : List QueueEntry) {s : State}, (s.normalEntry l).2 = none →
    e ∈ l → e ∈ (s.normalEntry l).1.queue → s.passes e
  | [], _, _, mem, _ => by cases mem
  | x :: l, s, h, mem, left => by
    rcases normalEntry_cons s x l with ⟨px, hx⟩ | hx | hx <;> rw [hx] at h left
    · rcases List.mem_cons.1 mem with rfl | mem
      · exact px
      · exact normalEntry_none l h mem left
    · cases h
    · rcases List.mem_cons.1 mem with rfl | mem
      · have gone := (normalEntry_sublist l _).subset left
        rw [dropEntry_queue] at gone
        simp at gone
      · exact passes_dropEntry.1 (normalEntry_none l h mem left)

/-! ### The passes of a selection -/

/-- Taking an entry's stage out of a queue that holds it shortens the queue. -/
theorem filter_stage_length {q : List QueueEntry} {e : QueueEntry} (h : e ∈ q) :
    (q.filter fun x => x.stage ≠ e.stage).length < q.length :=
  List.length_filter_lt_length_iff_exists.2 ⟨e, h, by simp⟩

theorem sendEntry_shortens {s : State} {e : QueueEntry} (h : e ∈ s.queue) : (s.sendEntry e).queue.length < s.queue.length := by
  rw [sendEntry_queue]; exact filter_stage_length h

/-- Sending what the second pass finds shortens the queue: it stands in it still, or a removal took it out. -/
theorem normalEntry_shortens {s : State} {e : QueueEntry} (h : (s.normalEntry s.queue).2 = some e) :
    ((s.normalEntry s.queue).1.sendEntry e).queue.length < s.queue.length := by
  have sub := normalEntry_sublist s.queue s
  by_cases he : e ∈ (s.normalEntry s.queue).1.queue
  · exact (sendEntry_shortens he).trans_le sub.length_le
  · rw [sendEntry_queue]
    refine (List.length_filter_le _ _).trans_lt (lt_of_le_of_ne sub.length_le fun same => he ?_)
    rw [sub.eq_of_length same]
    exact normalEntry_mem _ h

theorem protectEntry_mem {s : State} {e : QueueEntry} (h : s.protectEntry = some e) : e ∈ s.queue := List.mem_of_find?_eq_some h

/-- A selection may send. -/
structure Selects (s : State) : Prop where
  mode : s.mode ≠ .config
  room : s.portF.ins.length < 8

theorem select_stops {s : State} (h : ¬ Selects s) (n : Nat) : State.select (n + 1) s = s := by
  rw [State.select, if_pos]
  by_contra no
  obtain ⟨hm, room⟩ := not_or.1 no
  exact h ⟨hm, not_le.1 room⟩

theorem select_protect {s : State} {e : QueueEntry} (h : Selects s) (he : s.protectEntry = some e) (n : Nat) :
    State.select (n + 1) s = State.select n (s.sendEntry e) := by
  rw [State.select, if_neg (not_or.2 ⟨h.mode, not_le.2 h.room⟩), he]

theorem select_normal {s t : State} {e : QueueEntry} (h : Selects s) (hp : s.protectEntry = none)
    (he : s.normalEntry s.queue = (t, some e)) (n : Nat) : State.select (n + 1) s = State.select n (t.sendEntry e) := by
  rw [State.select, if_neg (not_or.2 ⟨h.mode, not_le.2 h.room⟩), hp, he]

theorem select_done {s t : State} (h : Selects s) (hp : s.protectEntry = none) (he : s.normalEntry s.queue = (t, none)) (n : Nat) :
    State.select (n + 1) s = t := by
  rw [State.select, if_neg (not_or.2 ⟨h.mode, not_le.2 h.room⟩), hp, he]

/-- The sendings and the ends of a selection: what each of them shows holds for as much fuel as the queue has entries, and one
more. -/
theorem select_steps {P : State → Prop} (stops : ∀ s, ¬ Selects s → P s)
    (sends : ∀ s t e, Selects s → (s.protectEntry = some e ∧ t = s ∨ s.protectEntry = none ∧ s.normalEntry s.queue = (t, some e)) →
      (t.sendEntry e).queue.length < s.queue.length → P (t.sendEntry e) → P s)
    (done : ∀ s t, Selects s → s.protectEntry = none → s.normalEntry s.queue = (t, none) → P s) (s : State) : P s := by
  induction hn : s.queue.length using Nat.strong_induction_on generalizing s with
  | _ n ih =>
    subst hn
    by_cases h : Selects s
    · cases hp : s.protectEntry with
      | some e =>
        have short := sendEntry_shortens (protectEntry_mem hp)
        exact sends s s e h (.inl ⟨hp, rfl⟩) short (ih _ short _ rfl)
      | none =>
        rcases hx : s.normalEntry s.queue with ⟨t, _ | e⟩
        · exact done s t h hp hx
        · have short := normalEntry_shortens (s := s) (e := e) (by rw [hx])
          rw [hx] at short
          exact sends s t e h (.inr ⟨hp, hx⟩) short (ih _ short _ rfl)
    · exact stops s h

/-- More fuel than the queue has entries changes nothing. -/
theorem select_fuel (s : State) : ∀ n m : Nat, s.queue.length < n → s.queue.length < m → State.select n s = State.select m s := by
  refine select_steps (P := fun s => ∀ n m : Nat, s.queue.length < n → s.queue.length < m →
    State.select n s = State.select m s) (fun s h n m hn hm => ?_) (fun s t e h found short ih n m hn hm => ?_)
    (fun s t h hp hx n m hn hm => ?_) s
  all_goals
    obtain ⟨n, rfl⟩ : ∃ n', n = n' + 1 := ⟨n - 1, by omega⟩
    obtain ⟨m, rfl⟩ : ∃ m', m = m' + 1 := ⟨m - 1, by omega⟩
  · rw [select_stops h, select_stops h]
  · rcases found with ⟨hp, rfl⟩ | ⟨hp, hx⟩
    · rw [select_protect h hp, select_protect h hp]
      exact ih n m (by omega) (by omega)
    · rw [select_normal h hp hx, select_normal h hp hx]
      exact ih n m (by omega) (by omega)
  · rw [select_done h hp hx, select_done h hp hx]

theorem selection_stops {s : State} (h : ¬ Selects s) : s.selection = s := select_stops h _

/-- The first pass decides a selection in which it finds an entry. -/
theorem selection_protect {s : State} {e : QueueEntry} (h : Selects s) (he : s.protectEntry = some e) :
    s.selection = (s.sendEntry e).selection := by
  rw [State.selection, select_protect h he]
  exact select_fuel _ _ _ (sendEntry_shortens (protectEntry_mem he)) (Nat.lt_succ_self _)

/-- Otherwise the second pass does. -/
theorem selection_normal {s t : State} {e : QueueEntry} (h : Selects s) (hp : s.protectEntry = none)
    (he : s.normalEntry s.queue = (t, some e)) : s.selection = (t.sendEntry e).selection := by
  rw [State.selection, select_normal h hp he]
  have short := normalEntry_shortens (s := s) (e := e) (by rw [he])
  rw [he] at short
  exact select_fuel _ _ _ short (Nat.lt_succ_self _)

theorem selection_done {s t : State} (h : Selects s) (hp : s.protectEntry = none) (he : s.normalEntry s.queue = (t, none)) :
    s.selection = t := select_done h hp he _

/-- A selection in SERVICE or FALLBACK ends with the down insert queue full, or behind a second pass that finds nothing. -/
theorem selection_ends (s : State) : s.mode ≠ .config → 8 ≤ s.selection.portF.ins.length
    ∨ ∃ u : State, u.protectEntry = none ∧ u.normalEntry u.queue = (s.selection, none) := by
  refine select_steps (P := fun s => s.mode ≠ .config → 8 ≤ s.selection.portF.ins.length
    ∨ ∃ u : State, u.protectEntry = none ∧ u.normalEntry u.queue = (s.selection, none)) (fun s h hm => ?_)
    (fun s t e h found _ ih hm => ?_) (fun s t h hp hx _ => .inr ⟨s, hp, by rw [selection_done h hp hx, hx]⟩) s
  · rw [selection_stops h]
    exact .inl (not_lt.1 fun room => h ⟨hm, room⟩)
  · have sent : (t.sendEntry e).mode = t.mode := by rw [sendEntry_switched t e]
    rcases found with ⟨hp, rfl⟩ | ⟨hp, hx⟩
    · rw [selection_protect h hp]
      exact ih (by rw [sent]; exact hm)
    · rw [selection_normal h hp hx]
      have mode := normalEntry_mode s.queue s
      rw [hx] at mode
      exact ih (by rw [sent, mode]; exact hm)

theorem select_sublist (n : Nat) (s : State) : (State.select n s).queue.Sublist s.queue :=
  select_frame (P := fun t => t.queue.Sublist s.queue)
    (fun t e h => by rw [dropEntry_queue]; exact List.filter_sublist.trans h)
    (fun t e h => by rw [sendEntry_queue]; exact List.filter_sublist.trans h) n (List.Sublist.refl _)

/-- A selection leaves the record of a stage that has no entry in the queue. -/
theorem select_stage_of_free {k : StageIx} (n : Nat) : ∀ s : State, (∀ e ∈ s.queue, e.stage ≠ k) →
    (State.select n s).stage k = s.stage k := by
  induction n with
  | zero => exact fun _ _ => rfl
  | succ n ih =>
    intro s free
    have sent {t : State} {e : QueueEntry} (sub : t.queue.Sublist s.queue) (he : e ∈ s.queue) (ht : t.stage k = s.stage k) :
        (State.select n (t.sendEntry e)).stage k = s.stage k := by
      rw [ih _ fun x hx => free x (sub.subset (List.mem_of_mem_filter (sendEntry_queue t e ▸ hx))),
        sendEntry_stage_ne t e (free e he).symm, ht]
    rcases select_cases n s with h | ⟨-, -, ⟨e, he, h⟩ | ⟨-, e, he, h⟩ | ⟨-, -, h⟩⟩ <;> rw [h]
    · exact sent (List.Sublist.refl _) (protectEntry_mem he) rfl
    · exact sent (normalEntry_sublist _ _) (normalEntry_mem _ he) (normalEntry_stage _ _ _)
    · exact normalEntry_stage _ _ _

/-! ### What a selection sends and removes (R93 to R95) -/

/-- No entry of class PROTECT is free to go. -/
theorem protectEntry_none {s : State} (h : ∀ x ∈ s.queue, ¬ (x.cls = .protect ∧ (s.stage x.stage).inFlight = none)) :
    s.protectEntry = none :=
  List.find?_eq_none.2 fun x hx => by simpa [State.inFlightOf] using h x hx

theorem protectEntry_first {s : State} {before after : List QueueEntry} {e : QueueEntry} (hq : s.queue = before ++ e :: after)
    (cls : e.cls = .protect) (free : (s.stage e.stage).inFlight = none)
    (first : ∀ x ∈ before, ¬ (x.cls = .protect ∧ (s.stage x.stage).inFlight = none)) : s.protectEntry = some e := by
  unfold State.protectEntry
  rw [hq, List.find?_append, List.find?_eq_none.2 fun x hx => by simpa [State.inFlightOf] using first x hx,
    List.find?_cons_of_pos (by simp [State.inFlightOf, cls, free])]
  rfl

/-- What the entries before the one that goes look like: busy, of class PROTECT, or held back by close pacing. -/
theorem passes_of {s : State} {x : QueueEntry}
    (h : (s.stage x.stage).inFlight = none → x.op = .close
      ∧ ((s.stage x.stage).state = .openReady ∧ (s.stage x.stage).lockoutPending = false) ∧ s.closeAllowed = false) : s.passes x := by
  by_cases busy : x.cls = .protect ∨ (s.inFlightOf x.stage).isSome
  · exact .inl busy
  · obtain ⟨-, idle⟩ := not_or.1 busy
    obtain ⟨hop, ⟨ready, free⟩, paced⟩ := h (by simpa [State.inFlightOf] using idle)
    exact .inr ⟨hop, ready, free, paced⟩

theorem reaches_of {s : State} {e : QueueEntry} (cls : e.cls = .normal) (free : (s.stage e.stage).inFlight = none) :
    s.reaches e := by
  rintro (h | h)
  · rw [cls] at h; cases h
  · rw [State.inFlightOf, free] at h; cases h

/-- Sending an entry, as its record, the queue and the COMMAND frame that enters port F. -/
theorem sendEntry_only (s : State) (e : QueueEntry) :
    ∃ u : State, u = { s with
        portS := u.portS, noticesDropped := u.noticesDropped, tag := nextTag s.tag
        lastClose := if e.op = .close then some s.now else s.lastClose
        queue := s.queue.filter fun x => x.stage ≠ e.stage, stages := u.stages }
      ∧ u.portS = { s.portS with ins := u.portS.ins, seq := u.portS.seq }
      ∧ s.sendEntry e = u.enterDown e.cls ((s.stage e.stage).cfg.unit.getD 0) (commandPayload e.op s.tag e.cls) := by
  refine ⟨_, ?_, ?_, rfl⟩
  · conv_lhs => rw [changeStage_switched]
    rw [changeStage_only]
  · rw [changeStage_only]

/-- What a selection leaves without an operation in flight is held back by close pacing. -/
theorem selection_leaves {s : State} (hm : s.mode ≠ .config) (room : s.selection.portF.ins.length < 8) {e : QueueEntry}
    (he : e ∈ s.selection.queue) (idle : (s.selection.stage e.stage).inFlight = none) :
    e.cls = .normal ∧ e.op = .close ∧ (s.selection.stage e.stage).state = .openReady
      ∧ (s.selection.stage e.stage).lockoutPending = false ∧ s.selection.closeAllowed = false := by
  rcases selection_ends s hm with full | ⟨u, hp, hx⟩
  · omega
  · have sub := normalEntry_sublist u.queue u
    have stage := normalEntry_stage u.queue u e.stage
    have paced := closeAllowed_normalEntry u.queue u
    have left := normalEntry_none (e := e) u.queue (s := u) (by rw [hx])
    rw [hx] at sub stage paced left
    dsimp only at sub stage paced left
    rw [stage] at idle ⊢
    rw [paced]
    have first := List.find?_eq_none.1 hp e (sub.subset he)
    rw [State.inFlightOf, idle] at first
    rcases left (sub.subset he) he with (cls | busy) | ⟨hop, ready, free, paced⟩
    · rw [cls] at first; exact absurd rfl first
    · rw [State.inFlightOf, idle] at busy; cases busy
    · cases cls : e.cls with
      | normal => exact ⟨rfl, hop, ready, free, paced⟩
      | protect => rw [cls] at first; exact absurd rfl first

/-- Settles O42: where a selection ends, and what its two passes find. -/
theorem selectionRunsOut : Obligations.SelectionRunsOut := by
  refine ⟨fun s hm => ⟨selection_switched s, select_sublist _ s, ?_⟩, fun s before after e hm room hq free => ?_,
    fun _ _ _ => rfl, fun s e => ?_⟩
  · by_cases full : 8 ≤ s.selection.portF.ins.length
    · exact .inl full
    · refine .inr fun e he idle => ?_
      obtain ⟨cls, hop, ready, free, paced⟩ := selection_leaves hm (not_le.1 full) he idle
      refine ⟨cls, hop, ready, free, ?_⟩
      rw [← Bool.not_eq_true, State.closeAllowed_iff] at paced
      by_contra no
      obtain ⟨limit, gap⟩ := not_or.1 no
      exact paced ⟨not_le.1 limit, fun c hc => not_lt.1 fun short => gap ⟨c, hc, short⟩⟩
  · have selects : Selects s := ⟨hm, room⟩
    have pacing : (s.closeFlights < s.link.closeLimit ∧ ∀ t, s.lastClose = some t → s.link.closeGap ≤ (s.now - t).toNat)
        ↔ s.closeAllowed = true := s.closeAllowed_iff.symm
    dsimp only
    rw [pacing]
    refine ⟨fun cls first => selection_protect selects (protectEntry_first hq cls free first),
      fun cls none go past => ?_, fun single cls none hop unready past => ?_⟩
    all_goals
      have skip (l : List QueueEntry) : s.normalEntry (before ++ l) = s.normalEntry l := normalEntry_passes_all before
        (fun x hx => passes_of fun idle => by simpa using past x hx idle) l
    · refine selection_normal selects (protectEntry_none none) ?_
      rw [hq, skip]
      exact normalEntry_finds (reaches_of cls free) (go.imp_right fun h => ⟨h.2.1.1, h.2.1.2, h.2.2⟩) after
    · -- the removal takes this entry alone, and what follows is the second pass of the shorter queue
      have rest : (s.dropEntry e .notReady).queue = before ++ after := by
        rw [hq, List.pairwise_append, List.pairwise_cons] at single
        obtain ⟨-, ⟨behind, -⟩, front⟩ := single
        rw [dropEntry_queue, hq, List.filter_append, List.filter_cons_of_neg (by simp)]
        congr 1
        · exact List.filter_eq_self.2 fun x hx => by simpa using front x hx e List.mem_cons_self
        · exact List.filter_eq_self.2 fun x hx => by simpa using (behind x hx).symm
      have dropped : s.normalEntry s.queue = (s.dropEntry e .notReady).normalEntry (s.dropEntry e .notReady).queue := by
        rw [hq, skip, rest, normalEntry_drops (reaches_of cls free) hop, normalEntry_passes_all before fun x hx =>
          passes_dropEntry.2 (passes_of fun idle => by simpa using past x hx idle)]
        by_cases ready : (s.stage e.stage).state = .openReady
        · exact .inr (by simpa [ready] using unready)
        · exact .inl ready
      have protects : (s.dropEntry e .notReady).protectEntry = Option.none := protectEntry_none fun x hx => by
        rw [dropEntry_stage]
        exact none x ((dropEntry_queue s e .notReady ▸ List.filter_sublist : (s.dropEntry e .notReady).queue.Sublist s.queue).subset hx)
      have selects' : Selects (s.dropEntry e .notReady) := by
        rw [dropEntry_only]; exact ⟨hm, room⟩
      rcases hx : s.normalEntry s.queue with ⟨t, _ | x⟩
      · rw [selection_done selects (protectEntry_none none) hx, selection_done selects' protects (dropped ▸ hx)]
      · rw [selection_normal selects (protectEntry_none none) hx, selection_normal selects' protects (dropped ▸ hx)]
  · obtain ⟨u, hu, hS, sent⟩ := sendEntry_only s e
    refine ⟨sendEntry_stage s e, fun _ => sendEntry_stage_ne s e, sendEntry_queue s e, ?_, ?_, ?_, ?_, fun full up idle => ?_⟩
    · rw [sent, enterDown_only, hu]; rfl
    · rw [sent, enterDown_only, hu]
    · have switched := sendEntry_switched s e
      obtain ⟨_, _, _, _, _, _, _, _, _, _, e⟩ := onlySwitched_iff.1 switched
      rw [e]; rfl
    · rw [sent, enterDown_only, hu]
    · have portF : u.portF = s.portF := by rw [hu]
      have node : u.fullNode = s.fullNode := by rw [hu]; rfl
      have addr : u.addr = s.addr := by rw [hu]
      have payload : commandPayload e.op s.tag e.cls
          = [if e.op = .open then 1 else 2, s.tag, if e.cls = .protect then 1 else 0] := by
        cases e.op <;> cases e.cls <;> rfl
      rw [sent, enterDown_up (by rw [node, full]) (by rw [portF, up]), preempt_refl (.inr fun n => by dsimp only; rw [portF]; exact idle n),
        payload]
      dsimp only
      rw [portF, addr]

/-! ### Gathering (R88 to R91) -/

theorem positionOp_iff {p : Option Position} {op : Operation} :
    p.bind positionOp = some op ↔ (op = .open ∧ p = some .open) ∨ (op = .close ∧ p = some .closed) := by
  rcases p with _ | _ | _ | _ | _ <;> cases op <;> simp [positionOp]

theorem closeBarred_iff {s : State} {k : StageIx} : s.closeBarred k = true
    ↔ (s.stage k).state = .lockedOut ∨ (s.stage k).state = .failed ∨ (s.stage k).lockoutPending = true := by
  simp [State.closeBarred, or_assoc]

theorem expected_iff {s : State} {k : StageIx} {op : Operation} : s.expected k = some op ↔
    (∃ f, (s.stage k).inFlight = some f ∧ f.op = op) ∨ (s.stage k).inFlight = none
      ∧ ((op = .open ∧ (s.stage k).reported = some .open) ∨ (op = .close ∧ (s.stage k).reported = some .closed)) := by
  unfold State.expected State.inFlightOf
  cases hf : (s.stage k).inFlight with
  | none => simp [positionOp_iff]
  | some f => simp

/-- Gathering of a command whose stage has no entry, by the rows of R91. -/
theorem gatherFresh_table (s : State) (k : StageIx) (op : Operation) (cls : CmdClass) (org : Origin) :
    ((s.stage k).state = .absent ∨ (op = .close ∧ s.closeBarred k = true) → s.gatherFresh k op cls org = (s, .notQueued))
    ∧ ((s.stage k).state ≠ .absent → ¬ (op = .close ∧ s.closeBarred k = true) → s.expected k = some op →
        s.gatherFresh k op cls org = (s, .already))
    ∧ ((s.stage k).state ≠ .absent → ¬ (op = .close ∧ s.closeBarred k = true) → s.expected k ≠ some op →
        s.gatherFresh k op cls org
          = (State.selection { s with queue := s.queue ++ [⟨k, op, cls, org, s.now⟩] }, .queued)) := by
  unfold State.gatherFresh
  refine ⟨fun h => ?_, fun known free there => ?_, fun known free away => ?_⟩
  · by_cases absent : (s.stage k).state = .absent
    · rw [if_pos absent]
    · rw [if_neg absent, if_pos (h.resolve_left absent)]
  · rw [if_neg known, if_neg free, if_pos there]
  · rw [if_neg known, if_neg free, if_neg away]

/-- Merging as its table has it: the higher class, and the origin of the command that raised it (R89). -/
theorem mergeEntry_eq (e : QueueEntry) (cls : CmdClass) (org : Origin) : mergeEntry e cls org = { e with
    cls := if e.cls = .normal ∧ cls = .normal then .normal else .protect
    origin := if e.cls = .normal ∧ cls = .protect then org else e.origin } := by
  unfold mergeEntry maxClass
  cases e.cls <;> cases cls <;> rfl

theorem mergeEntry_rises (e : QueueEntry) (cls : CmdClass) (org : Origin) :
    (mergeEntry e cls org).cls = e.cls ↔ ¬ (e.cls = .normal ∧ cls = .protect) := by
  rw [mergeEntry_eq]
  dsimp only
  cases e.cls <;> cases cls <;> decide

/-- Settles O41. -/
theorem gatheringByItsTable : Obligations.GatheringByItsTable := by
  intro s k op cls org
  dsimp only
  rw [← closeBarred_iff]
  have reached : (match (s.stage k).inFlight with
      | some f => f.op = op
      | none => (op = .open ∧ (s.stage k).reported = some .open) ∨ (op = .close ∧ (s.stage k).reported = some .closed))
      ↔ s.expected k = some op := by
    rw [expected_iff]
    cases (s.stage k).inFlight <;> simp
  refine ⟨fun hm => if_pos hm, fun hm none => ?_, fun e hm found => ⟨fun same barred => ?_, fun same free => ?_,
    fun opens closes cls => ?_, fun other go => ?_⟩⟩
  · have fresh : s.gather k op cls org = s.gatherFresh k op cls org := by rw [State.gather, if_neg hm, none]
    rw [fresh]
    obtain ⟨h1, h2, h3⟩ := gatherFresh_table s k op cls org
    exact ⟨h1, fun known free there => h2 known free (reached.1 there),
      fun known free away => h3 known free (mt reached.2 away)⟩
  · rw [State.gather, if_neg hm, found]
    dsimp only
    rw [if_pos same, if_pos barred]
  · have merges : (fun x : QueueEntry => if x.stage = k then mergeEntry x cls org else x) = fun x => if x.stage = k then { x with
        cls := if x.cls = .normal ∧ cls = .normal then .normal else .protect
        origin := if x.cls = .normal ∧ cls = .protect then org else x.origin } else x :=
      funext fun x => by rw [mergeEntry_eq]
    rw [State.gather, if_neg hm, found]
    dsimp only
    rw [if_pos same, if_neg free, merges]
    by_cases rises : e.cls = .normal ∧ cls = .protect
    · rw [if_neg (by rw [mergeEntry_rises]; exact not_not.2 rises), if_pos rises]
    · rw [if_pos ((mergeEntry_rises ..).2 rises), if_neg rises]
  · rw [State.gather, if_neg hm, found]
    dsimp only
    rw [if_neg (by rw [opens, closes]; decide), if_pos ⟨closes, cls⟩]
  · have fresh : s.gather k op cls org = (s.dropEntry e .superseded).gatherFresh k op cls org := by
      rw [State.gather, if_neg hm, found]
      dsimp only
      rw [if_neg other, if_neg go]
    have dropped : s.dropEntry e .superseded = State.notice { s with queue := s.queue.filter fun x => x.stage ≠ k }
        (.commandDropped e .superseded none) := by
      rw [State.dropEntry, (State.entryOf_some found).2]; rfl
    have barred : (s.dropEntry e .superseded).closeBarred k = s.closeBarred k := by
      unfold State.closeBarred; rw [dropEntry_stage]
    have expected : (s.dropEntry e .superseded).expected k = s.expected k := by
      unfold State.expected State.inFlightOf; rw [dropEntry_stage]
    have now : (s.dropEntry e .superseded).now = s.now := by rw [dropEntry_only]
    obtain ⟨h1, h2, h3⟩ := gatherFresh_table (s.dropEntry e .superseded) k op cls org
    rw [dropEntry_stage, barred] at h1 h2 h3
    rw [expected] at h2 h3
    rw [fresh, ← dropped, ← now]
    exact ⟨h1, fun known free there => h2 known free (reached.1 there),
      fun known free away => h3 known free (mt reached.2 away)⟩

end Sys2Proof.Machine
end

section
/-! Timers of stages and of the supervisor, and the manual requests. -/

namespace Sys2Proof.Machine

/-! ### Stage timers (R73, R76, R78) -/

theorem exec_movingTimerExpiry {s : State} (h : s.held = false) (k : StageIx) :
    exec (.movingTimerExpiry k) s = .next (s.movingExpiry k) := congrArg Host.Outcome.next (State.live_of_running h _)

theorem exec_unitSilence {s : State} (h : s.held = false) (k : StageIx) :
    exec (.unitSilence k) s = .next (s.silenceExpiry k) := congrArg Host.Outcome.next (State.live_of_running h _)

theorem exec_cooldownExpiry {s : State} (h : s.held = false) (k : StageIx) :
    exec (.cooldownExpiry k) s = .next (s.cooldownOver k) := congrArg Host.Outcome.next (State.live_of_running h _)

/-- Settles O40. -/
theorem stageTimersActWhenDue : Obligations.StageTimersActWhenDue := by
  intro s k hh
  dsimp only
  rw [exec_movingTimerExpiry hh, exec_unitSilence hh, exec_cooldownExpiry hh]
  refine ⟨fun m hm enabled due => ?_, fun early => ?_, fun enabled heard due => ?_, fun early => ?_,
    fun enabled state settled cooled => ?_, fun early => ?_⟩
  · have expires : s.movingExpiry k = s.changeStage k fun a => { lostStage a with moving := none } := by
      rw [State.movingExpiry, hm]
      exact if_pos (by rw [enabled, Bool.true_and, decide_eq_true_eq]; exact due)
    have records := changeStage_records s k fun a => { lostStage a with moving := none }
    rw [expires]
    exact ⟨_, rfl, records.own, fun _ => records.other, records.only⟩
  · rw [State.movingExpiry]
    cases hm : (s.stage k).moving with
    | none => rfl
    | some m =>
      refine congrArg Host.Outcome.next (if_neg ?_)
      rw [Bool.and_eq_true, decide_eq_true_eq]
      rintro ⟨enabled, due⟩
      rcases early m hm with off | early
      · rw [enabled] at off; cases off
      · exact absurd due (not_le.2 early)
  · have expires : s.silenceExpiry k = s.changeStage k fun a => { a with silent := true } :=
      if_pos (by rw [enabled, heard, decide_eq_true (show s.link.silence ≤ elapsed s.now (s.stage k).silenceFrom from due)]; rfl)
    have records := changeStage_records s k fun a => { a with silent := true }
    rw [expires]
    exact ⟨_, rfl, records.own, fun _ => records.other, records.only⟩
  · refine congrArg Host.Outcome.next (if_neg ?_)
    simp only [Bool.and_eq_true, Bool.not_eq_true', decide_eq_true_eq]
    rintro ⟨⟨enabled, heard⟩, due⟩
    rcases early with off | silent | early
    · rw [enabled] at off; cases off
    · rw [heard] at silent; cases silent
    · exact absurd due (not_le.2 early)
  · have expires : s.cooldownOver k = (s.changeStage k fun a => { a with state := .openReady }).selection :=
      if_pos (by simp [enabled, state, settled, cooled])
    have records := changeStage_records s k fun a => { a with state := .openReady }
    rw [expires]
    exact ⟨_, _, rfl, rfl, records.own, fun _ => records.other, records.only,
      onlySwitched_trans records.switched (selection_switched _)⟩
  · refine congrArg Host.Outcome.next (if_neg ?_)
    simp only [Bool.and_eq_true, beq_iff_eq, Bool.not_eq_true']
    rintro ⟨⟨⟨enabled, state⟩, settled⟩, cooled⟩
    rcases early with off | other | awaiting | warm
    · rw [enabled] at off; cases off
    · exact other state
    · rw [settled] at awaiting; cases awaiting
    · exact warm cooled

/-! ### The supervisor's timers (R94, R98) -/

theorem exec_switchTimeout {s : State} (h : s.held = false) (k : StageIx) :
    exec (.switchTimeout k) s = .next (s.switchTimeout k) := congrArg Host.Outcome.next (State.live_of_running h _)

theorem exec_closeGapExpiry {s : State} (h : s.held = false) :
    exec .closeGapExpiry s = .next s.closeGapExpiry := congrArg Host.Outcome.next (State.live_of_running h _)

/-- A stage without an entry has none to be satisfied. -/
theorem testSatisfied_of_free {s : State} {k : StageIx} (h : s.hasEntry k = false) : s.testSatisfied k = s := by
  have none : s.entryOf k = none := by simpa [State.hasEntry] using h
  rw [State.testSatisfied, none]

/-- A selection leaves the record of a stage without an entry. -/
theorem selection_stage_of_free {s : State} {k : StageIx} (h : s.hasEntry k = false) : s.selection.stage k = s.stage k :=
  select_stage_of_free _ s (State.entryOf_none.1 (by simpa [State.hasEntry] using h))

theorem State.hasEntry_congr {s t : State} (h : t.queue = s.queue) (k : StageIx) : t.hasEntry k = s.hasEntry k := by
  unfold State.hasEntry State.entryOf; rw [h]

/-- The operation in flight fails, step by step (R99). -/
theorem failOperation_eq (s : State) (k : StageIx) (f : InFlight) (r : FailReason) (pre : Stage → Stage) :
    s.failOperation k f r pre = (((((s.changeStage k fun a => failStage (pre a)).notice
      (.switchFailure k f r (pre (s.stage k)).reported)).trigger .switchFailure (some k)
      (s.yardIx.map (·.1))).testSatisfied k).selection) := by
  unfold State.failOperation
  dsimp only
  rw [changeStage_stage, show (failStage (pre (s.stage k))).reported = (pre (s.stage k)).reported from rfl]
  rw [show (((s.changeStage k fun a => failStage (pre a)).notice
      (.switchFailure k f r (pre (s.stage k)).reported))).yardIx = s.yardIx by rw [notice_only, changeStage_only]]

/-- The record of a failed operation whose stage has no entry. -/
theorem failOperation_stage {s : State} {k : StageIx} (free : s.hasEntry k = false) (f : InFlight) (r : FailReason)
    (pre : Stage → Stage) : (s.failOperation k f r pre).stage k = failStage (pre (s.stage k)) := by
  rw [failOperation_eq]
  set u := ((s.changeStage k fun a => failStage (pre a)).notice (.switchFailure k f r (pre (s.stage k)).reported)).trigger
    .switchFailure (some k) (s.yardIx.map (·.1)) with hu
  have none : u.hasEntry k = false := by
    rw [State.hasEntry_congr (s := s) (by rw [hu, trigger_queue, notice_queue, changeStage_queue])]; exact free
  rw [testSatisfied_of_free none, selection_stage_of_free none, hu, trigger_stage, notice_stage, changeStage_stage]

/-- Settles O44. -/
theorem supervisorTimersActWhenDue : Obligations.SupervisorTimersActWhenDue := by
  intro s k hh
  rw [exec_switchTimeout hh, exec_closeGapExpiry hh]
  refine ⟨fun idle => ?_, fun f hf => ⟨fun early => ?_, fun due => ⟨s.failOperation k f .timeout id, ?_, failOperation_switched ..,
    fun free => failOperation_stage free .., failOperation_eq ..⟩⟩, fun c hc due => ?_, fun early => ?_⟩
  · rw [State.switchTimeout, State.inFlightOf, idle]
  · rw [State.switchTimeout, State.inFlightOf, hf]
    exact congrArg Host.Outcome.next (if_neg (by rw [deadlineReached, decide_eq_true_eq]; exact not_le.2 early))
  · rw [State.switchTimeout, State.inFlightOf, hf]
    exact congrArg Host.Outcome.next (if_pos (by rw [deadlineReached, decide_eq_true_eq]; exact due))
  · have gap : s.closeGapDue = true := by rw [State.closeGapDue, hc]; exact decide_eq_true due
    rw [State.closeGapExpiry, if_pos gap]
  · refine congrArg Host.Outcome.next (if_neg ?_)
    rw [State.closeGapDue]
    cases hc : s.lastClose with
    | none => exact Bool.false_ne_true
    | some c => exact fun due => early c hc (of_decide_eq_true due)

/-! ### Manual requests (R101, R102, R140) -/

/-- A command that is neither barred nor behind a PROTECT OPEN is queued, merged or there already. -/
theorem gather_taken {s : State} {k : StageIx} {op : Operation} (cls : CmdClass) (org : Origin) (hm : s.mode ≠ .config)
    (known : (s.stage k).state ≠ .absent) (free : ¬ (op = .close ∧ s.closeBarred k = true))
    (ahead : ∀ e, s.entryOf k = some e → ¬ (op = .close ∧ e.op = .open ∧ e.cls = .protect)) :
    (s.gather k op cls org).2 ≠ .notQueued := by
  have fresh (t : State) (ht : t.stage k = s.stage k) : (t.gatherFresh k op cls org).2 ≠ .notQueued := by
    have barred : t.closeBarred k = s.closeBarred k := by unfold State.closeBarred; rw [ht]
    obtain ⟨-, already, queued⟩ := gatherFresh_table t k op cls org
    rw [ht, barred] at already queued
    by_cases there : t.expected k = some op
    · rw [already known free there]; nofun
    · rw [queued known free there]; nofun
  rw [State.gather, if_neg hm]
  cases found : s.entryOf k with
  | none => exact fresh s rfl
  | some e =>
    dsimp only
    by_cases same : e.op = op
    · rw [if_pos same, if_neg free]; nofun
    · rw [if_neg same]
      have go : ¬ (op = .close ∧ e.cls = .protect) := fun ⟨closes, protects⟩ => ahead e found
        ⟨closes, by cases h : e.op using Operation.named with | opens => rfl | close => exact absurd (h.trans closes.symm) same, protects⟩
      rw [if_neg go]
      exact fresh _ (dropEntry_stage ..)

theorem gather_behind {s : State} {k : StageIx} {e : QueueEntry} (cls : CmdClass) (org : Origin) (hm : s.mode ≠ .config)
    (found : s.entryOf k = some e) (opens : e.op = .open) (protects : e.cls = .protect) :
    s.gather k .close cls org = (s, .notQueued) := by
  rw [State.gather, if_neg hm, found]
  dsimp only
  rw [if_neg (by rw [opens]; decide), if_pos ⟨rfl, protects⟩]

theorem gatherAnswer_taken {g : Gathered} (h : g ≠ .notQueued) :
    gatherAnswer g = if g = .already then doneAlready else doneWith [] := by
  cases g with
  | notQueued => exact absurd rfl h
  | _ => rfl

theorem doManualOpen_eq (s : State) {k : StageIx} {b : Byte} (hb : b.toNat = k.val) : s.doManualOpen b =
    if s.mode = .config then (s, refused .mode) else if (s.stage k).state = .absent then (s, refused .state)
    else s.gatherManual k .open := by
  rw [State.doManualOpen, stageOfByte_of_val hb]

theorem doManualClose_refuses {s : State} {k : StageIx} {b : Byte} (hb : b.toNat = k.val) {r : Reason}
    (hc : s.manualCloseCheck k = some r) : s.doManualClose b = (s, refused r) := by
  rw [State.doManualClose, stageOfByte_of_val hb]
  dsimp only
  rw [hc]

theorem doManualClose_gathers {s : State} {k : StageIx} {b : Byte} (hb : b.toNat = k.val)
    (hc : s.manualCloseCheck k = none) : s.doManualClose b = s.gatherManual k .close := by
  rw [State.doManualClose, stageOfByte_of_val hb]
  dsimp only
  rw [hc]

theorem doCaptureBalance_refuses {s : State} {k : StageIx} {b : Byte} (hb : b.toNat = k.val) {r : Reason}
    (hc : s.captureBalanceCheck k = some r) : s.doCaptureBalance b = (s, refused r) := by
  rw [State.doCaptureBalance, stageOfByte_of_val hb]
  dsimp only
  rw [hc]

theorem doCaptureBalance_starts {s : State} {k : StageIx} {b : Byte} (hb : b.toNat = k.val)
    (hc : s.captureBalanceCheck k = none) : s.doCaptureBalance b
      = (s.modStage k fun a => { a with unb := { a.unb with capture := some ⟨0, 0, 0⟩ } }, doneWith []) := by
  rw [State.doCaptureBalance, stageOfByte_of_val hb]
  dsimp only
  rw [hc]

/-- Settles O45. -/
theorem manualRequestsCheckInOrder : Obligations.ManualRequestsCheckInOrder := by
  intro s rq h
  refine ⟨fun b hb => ⟨request_answers h rq _ ?_, request_answers h rq _ ?_, request_answers h rq _ ?_⟩,
    fun k b hb => ⟨?_, ?_, ?_⟩⟩
  · rw [State.doManualOpen, stageOfByte_of_large hb]
  · rw [State.doManualClose, stageOfByte_of_large hb]
  · rw [State.doCaptureBalance, stageOfByte_of_large hb]
  · dsimp only
    by_cases hm : s.mode = .config
    · rw [if_pos hm]
      exact request_answers h rq _ (by rw [doManualOpen_eq s hb, if_pos hm])
    by_cases absent : (s.stage k).state = .absent
    · rw [if_neg hm, if_pos absent]
      exact request_answers h rq _ (by rw [doManualOpen_eq s hb, if_neg hm, if_pos absent])
    rw [if_neg hm, if_neg absent]
    have taken := gather_taken (op := .open) .normal .manual hm absent (by simp) (by simp)
    refine ⟨(s.gather k .open .normal .manual).1, (s.gather k .open .normal .manual).2, rfl, taken, ?_⟩
    rw [← gatherAnswer_taken taken]
    exact request_answers h rq _ (by rw [doManualOpen_eq s hb, if_neg hm, if_neg absent]; rfl)
  · have refuses (r : Reason) (e : some r = s.manualCloseCheck k) :
        exec (.manualClose rq b) s = .next (s.reply rq 0x16 false (refused r)) :=
      request_answers h rq _ (doManualClose_refuses hb e.symm)
    have gathers (e : none = s.manualCloseCheck k) : exec (.manualClose rq b) s
        = .next ((s.gather k .close .normal .manual).1.reply rq 0x16 false (gatherAnswer (s.gather k .close .normal .manual).2)) :=
      request_answers h rq _ (doManualClose_gathers hb e.symm)
    generalize hc : s.manualCloseCheck k = o at refuses gathers
    unfold State.manualCloseCheck at hc
    dsimp only
    refine check_first Iff.rfl hc (refuses _) fun hm hc => ?_
    refine check_first Iff.rfl hc (refuses _) fun known hc => ?_
    refine check_first (by rw [State.inFlightOf, Option.isSome_iff_ne_none]) hc (refuses _) fun _ hc => ?_
    refine check_first closeBarred_iff.symm hc (refuses _) fun free hc => ?_
    refine check_first Iff.rfl hc (refuses _) fun _ hc => ?_
    rw [gathers hc]
    by_cases behind : ∃ e, s.entryOf k = some e ∧ e.op = .open ∧ e.cls = .protect
    · obtain ⟨e, found, opens, protects⟩ := behind
      rw [if_pos ⟨e, found, opens, protects⟩, gather_behind .normal .manual hm found opens protects]
      rfl
    · rw [if_neg behind]
      have taken := gather_taken (op := .close) .normal .manual hm known (fun h => free (closeBarred_iff.1 h.2))
        fun e found h => behind ⟨e, found, h.2⟩
      exact ⟨(s.gather k .close .normal .manual).1, (s.gather k .close .normal .manual).2, rfl, taken, by rw [gatherAnswer_taken taken]⟩
  · have refuses (r : Reason) (e : some r = s.captureBalanceCheck k) :
        exec (.captureBalance rq b) s = .next (s.reply rq 0x17 false (refused r)) :=
      request_answers h rq _ (doCaptureBalance_refuses hb e.symm)
    have starts (e : none = s.captureBalanceCheck k) := request_answers h rq 0x17 (doCaptureBalance_starts hb e.symm)
    generalize hc : s.captureBalanceCheck k = o at refuses starts
    unfold State.captureBalanceCheck at hc
    dsimp only
    refine check_first Iff.rfl hc (refuses _) fun _ hc => ?_
    refine check_first Iff.rfl hc (refuses _) fun _ hc => ?_
    refine check_first (by rw [Bool.or_eq_true]) hc (refuses _) fun _ hc => ?_
    refine check_first (by rw [Option.isSome_iff_ne_none]) hc (refuses _) fun _ hc => ?_
    exact starts hc

end Sys2Proof.Machine
end

section
/-! POSITION reports: what one record makes of a report, with nothing in flight and with an operation in flight. -/

namespace Sys2Proof.Machine

/-! ### Notices and records -/

/-- A notice looks at no record, so a later change of one can be made before it. -/
theorem notice_modStage (s : State) (n : Notice) (k : StageIx) (f : Stage → Stage) :
    (s.notice n).modStage k f = (s.modStage k f).notice n := by
  unfold State.notice State.enterUp
  rw [show (s.modStage k f).fullNode = s.fullNode from rfl, show (s.modStage k f).upRoom = s.upRoom from rfl]
  split
  · rfl
  · split <;> rfl

/-! ### Leaving CLOSED (R128, R152) -/

theorem clearAlarmUnlessLocked_eq (s : State) (k : StageIx) (c : ClearCause) (u : Option Nat) (w : Option WindowIx) :
    s.clearAlarmUnlessLocked k c u w =
      let a := s.stage k
      let t := s.modStage k fun _ => { a with unbalanceAlarm := a.unbalanceAlarm && lockoutKeeps a }
      if a.unbalanceAlarm = true ∧ lockoutKeeps a = false then t.notice (.unbalanceAlarm k false (some c) u w) else t := by
  have same (h : ((s.stage k).unbalanceAlarm && lockoutKeeps (s.stage k)) = (s.stage k).unbalanceAlarm) :
      s.modStage k (fun _ => { s.stage k with unbalanceAlarm := (s.stage k).unbalanceAlarm && lockoutKeeps (s.stage k) }) = s :=
    State.modStage_self s k (by rw [h])
  unfold State.clearAlarmUnlessLocked State.clearAlarm
  dsimp only
  cases locked : lockoutKeeps (s.stage k) with
  | true => rw [if_pos rfl, if_neg (by simp), ← locked, same (by simp [locked])]
  | false =>
    rw [if_neg (by simp)]
    cases flag : (s.stage k).unbalanceAlarm with
    | true => rw [if_pos rfl, if_pos ⟨rfl, rfl⟩]; rfl
    | false =>
      rw [if_neg (by simp), if_neg (by simp)]
      exact (State.modStage_self s k (congrArg (fun b => { s.stage k with unbalanceAlarm := b }) flag.symm)).symm

theorem clearOverload_eq (s : State) (k : StageIx) (c : ClearCause) : s.clearOverload k c =
    let t := s.modStage k fun _ => { s.stage k with overload := false }
    if (s.stage k).overload = true then t.notice (.harmonicOverload k .cleared (some c) none none none) else t := by
  unfold State.clearOverload
  dsimp only
  split
  · rfl
  · next h => rw [State.modStage_self s k (by rw [Bool.not_eq_true] at h; rw [← h])]

theorem abandonCapture_eq (s : State) (k : StageIx) (e : Abandon) : s.abandonCapture k e =
    let t := s.modStage k fun _ => { s.stage k with unb := { (s.stage k).unb with capture := none } }
    ((s.stage k).unb.capture.map fun b => t.notice (.balanceAbandoned k e b.count)).getD t := by
  unfold State.abandonCapture
  split
  · next h => rw [h]; rfl
  · next h => 
    rw [State.modStage_self s k (by rw [← h]), h]; rfl

/-- The record of a stage whose reported position has left CLOSED. -/
def Stage.leftClosed (a : Stage) : Stage :=
  { a with
    unbalanceAlarm := a.unbalanceAlarm && lockoutKeeps a
    overload := false, overCount := 0, unb := ⟨none, false, 0, 0, none⟩ }

/-- What leaving CLOSED does, step by step: the alarm, the balance capture, the overload. -/
theorem leftClosed_eq (s : State) (k : StageIx) : s.leftClosed k =
    let a := s.stage k
    let one := s.modStage k fun _ => a.leftClosed
    let two := if a.unbalanceAlarm = true ∧ lockoutKeeps a = false then
      one.notice (.unbalanceAlarm k false (some .leftClosed) none none) else one
    let three := (a.unb.capture.map fun x => two.notice (.balanceAbandoned k .leftClosed x.count)).getD two
    if a.overload = true then three.notice (.harmonicOverload k .cleared (some .leftClosed) none none none) else three := by
  have locked (b : UnbalanceState) : lockoutKeeps { s.stage k with unb := b } = lockoutKeeps (s.stage k) := rfl
  unfold State.leftClosed State.unbalanceLeftClosed State.harmonicLeftClosed
  simp only [clearAlarmUnlessLocked_eq, clearOverload_eq, abandonCapture_eq, State.modStage_stage, locked,
    State.modStage_modStage]
  by_cases alarm : (s.stage k).unbalanceAlarm = true ∧ lockoutKeeps (s.stage k) = false
  · simp only [if_pos alarm, notice_modStage, State.modStage_modStage, notice_stage, State.modStage_stage]
    cases capture : (s.stage k).unb.capture <;> simp [notice_modStage, State.modStage_modStage, Stage.leftClosed]
  · simp only [if_neg alarm, State.modStage_modStage, State.modStage_stage]
    cases capture : (s.stage k).unb.capture <;> simp [notice_modStage, State.modStage_modStage, Stage.leftClosed]

theorem leftClosed_records (s : State) (k : StageIx) : Records s k (s.stage k).leftClosed (s.leftClosed k) := by
  have one : Records s k (s.stage k).leftClosed (s.modStage k fun _ => (s.stage k).leftClosed) := onlyNoticed_refl _
  have noted {t : State} (n : Notice) (h : Records s k (s.stage k).leftClosed t) :
      Records s k (s.stage k).leftClosed (t.notice n) := onlyNoticed_trans h (notice_only t n)
  have noteIf {t : State} (c : Prop) [Decidable c] (n : Notice) (h : Records s k (s.stage k).leftClosed t) :
      Records s k (s.stage k).leftClosed (if c then t.notice n else t) := by
    split
    · exact noted n h
    · exact h
  rw [leftClosed_eq]
  refine noteIf _ _ ?_
  cases (s.stage k).unb.capture with
  | none => exact noteIf _ _ one
  | some x => exact noted _ (noteIf _ _ one)

/-- A stage reported CLOSED before and not now has left CLOSED. -/
def State.leavesClosed (s : State) (k : StageIx) (was : Option Position) (pos : Position) : State :=
  if was = some .closed ∧ pos ≠ .closed then s.leftClosed k else s

theorem leavesClosed_records (s : State) (k : StageIx) (was : Option Position) (pos : Position) :
    Records s k (if was = some .closed ∧ pos ≠ .closed then (s.stage k).leftClosed else s.stage k) (s.leavesClosed k was pos) := by
  unfold State.leavesClosed
  split
  · exact leftClosed_records s k
  · exact .refl rfl

/-! ### The record of a report before the supervisor or the stage table acts on it (R67, R68) -/

/-- The in-service list after a report of stage `k`. -/
def State.listed (s : State) (k : StageIx) (pos : Position) : State :=
  { s with inService := inServiceAfter s.inService k (s.stage k).reported pos }

/-- The first step of a report and the change of the record it brings are one change of the record. -/
theorem reported_changeStage (s : State) (k : StageIx) (pos : Position) (f : Stage → Stage) :
    (s.reported k pos (reportStage pos s.now (s.stage k))).changeStage k f =
      (s.listed k pos).changeStage k fun _ => f (reportStage pos s.now (s.stage k)) := by
  unfold State.changeStage
  rw [State.reported_stage]
  dsimp only
  unfold State.reported
  rw [State.withRecord_modStage]
  rfl

theorem positionRecord_disabled {s : State} {k : StageIx} (r : PositionReport) (h : (s.stage k).cfg.enabled = false) :
    State.positionRecord r s k = s.reported k r.pos (reportStage r.pos s.now (s.stage k)) := by
  unfold State.positionRecord
  dsimp only
  rw [if_pos (by simp [h])]
  rfl

theorem positionRecord_idle {s : State} {k : StageIx} (r : PositionReport) (h : (s.stage k).cfg.enabled = true)
    (hf : (s.stage k).inFlight = none) : State.positionRecord r s k =
      ((s.reported k r.pos (reportStage r.pos s.now (s.stage k))).reportIdle k (s.stage k).stable r.pos
        (reportStage r.pos s.now (s.stage k))).leavesClosed k (s.stage k).reported r.pos := by
  unfold State.positionRecord
  dsimp only
  rw [if_neg (by simp [h]), hf]
  show State.leavesClosed ((s.reported k r.pos (reportStage r.pos s.now (s.stage k))).reportIdle k (s.stage k).stable r.pos
    ((s.reported k r.pos (reportStage r.pos s.now (s.stage k))).stage k)) k _ _ = _
  rw [State.reported_stage]

theorem positionRecord_flight {s : State} {k : StageIx} {f : InFlight} (r : PositionReport) (h : (s.stage k).cfg.enabled = true)
    (hf : (s.stage k).inFlight = some f) : State.positionRecord r s k =
      ((s.reported k r.pos (reportStage r.pos s.now (s.stage k))).reportFlight k (s.stage k).stable r f).leavesClosed k
        (s.stage k).reported r.pos := by
  unfold State.positionRecord
  dsimp only
  rw [if_neg (by simp [h]), hf]
  rfl

/-! ### A report with an operation in flight (R96 to R99) -/

/-- The operation in flight is completed by the report. -/
def PositionReport.completes (r : PositionReport) (f : InFlight) : Prop :=
  r.tag = f.tag ∧ r.result = .accepted ∧ ((r.pos = .closed ∧ f.op = .close) ∨ (r.pos = .open ∧ f.op = .open))

theorem PositionReport.completes_iff {r : PositionReport} {f : InFlight} :
    r.completes f ↔ r.tag = f.tag ∧ r.result = .accepted ∧ positionOp r.pos = some f.op := by
  have := positionOp_iff (p := some r.pos) (op := f.op)
  rw [Option.bind_some] at this
  rw [this]
  simp only [PositionReport.completes, Option.some.injEq]
  grind

/-- The report fails the operation in flight. -/
def PositionReport.fails (r : PositionReport) (f : InFlight) : Prop := (r.tag = f.tag ∧ r.result = .refused) ∨ r.pos = .unknown

def failureOf (r : PositionReport) (f : InFlight) : FailReason := if r.tag = f.tag ∧ r.result = .refused then .refused else .unknown

theorem reportFlight_completes {r : PositionReport} {f : InFlight} (h : r.completes f) (s : State) (k : StageIx)
    (was : Option Position) : s.reportFlight k was r f = s.completeOperation k f (seenStage s.link was r.pos s.now) :=
  if_pos (PositionReport.completes_iff.1 h)

theorem reportFlight_fails {r : PositionReport} {f : InFlight} (h : ¬ r.completes f) (g : r.fails f) (s : State) (k : StageIx)
    (was : Option Position) :
    s.reportFlight k was r f = s.failOperation k f (failureOf r f) (seenStage s.link was r.pos s.now) := by
  unfold State.reportFlight failureOf
  dsimp only
  rw [if_neg (mt PositionReport.completes_iff.2 h)]
  by_cases refused : r.tag = f.tag ∧ r.result = .refused
  · rw [if_pos refused, if_pos refused]
  · rw [if_neg refused, if_neg refused, if_pos (g.resolve_left refused)]

theorem reportFlight_stays {r : PositionReport} {f : InFlight} (h : ¬ r.completes f) (g : ¬ r.fails f) (s : State) (k : StageIx)
    (was : Option Position) : s.reportFlight k was r f = s.changeStage k (seenStage s.link was r.pos s.now) := by
  obtain ⟨accepted, known⟩ := not_or.1 g
  unfold State.reportFlight
  dsimp only
  rw [if_neg (mt PositionReport.completes_iff.2 h), if_neg accepted, if_neg known]

theorem reportFlight_switched (s : State) (k : StageIx) (was : Option Position) (r : PositionReport) (f : InFlight) :
    onlySwitched s (s.reportFlight k was r f) := by
  by_cases h : r.completes f
  · rw [reportFlight_completes h]; exact completeOperation_switched ..
  · by_cases g : r.fails f
    · rw [reportFlight_fails h g]; exact failOperation_switched ..
    · rw [reportFlight_stays h g]; exact changeStage_switched ..

theorem reported_switched (s : State) (k : StageIx) (pos : Position) (b : Stage) : onlySwitched (s.listed k pos) (s.reported k pos b) :=
  rfl

theorem reportIdle_switched (s : State) (k : StageIx) (was : Option Position) (pos : Position) (a : Stage) :
    onlySwitched s (s.reportIdle k was pos a) := by
  have reopened (u : State) : onlySwitched u (u.reopen k pos a) := by
    unfold State.reopen
    split
    · exact gather_switched ..
    · exact onlySwitched_refl u
  have base := onlySwitched_trans
    (changeStage_switched s k fun b => reactStage s.mode was pos (seenStage s.link was pos s.now b)) (reopened _)
  unfold State.reportIdle
  refine onlySwitched_trans ?_ (testSatisfied_switched ..)
  split
  · exact onlySwitched_trans base (notice_switched ..)
  · exact base

/-- A report touches the in-service list, as R68 says, and what switching touches. -/
theorem positionRecord_switched (r : PositionReport) (s : State) (k : StageIx) :
    onlySwitched (s.listed k r.pos) (State.positionRecord r s k) := by
  have first := reported_switched s k r.pos (reportStage r.pos s.now (s.stage k))
  have left (u : State) : onlySwitched u (u.leavesClosed k (s.stage k).reported r.pos) := (leavesClosed_records ..).switched
  cases enabled : (s.stage k).cfg.enabled with
  | false => rw [positionRecord_disabled r enabled]; exact first
  | true =>
    cases hf : (s.stage k).inFlight with
    | none =>
      rw [positionRecord_idle r enabled hf]
      exact onlySwitched_trans (onlySwitched_trans first (reportIdle_switched ..)) (left _)
    | some f =>
      rw [positionRecord_flight r enabled hf]
      exact onlySwitched_trans (onlySwitched_trans first (reportFlight_switched ..)) (left _)

theorem positionRecord_inService (r : PositionReport) (s : State) (k : StageIx) :
    (State.positionRecord r s k).inService = inServiceAfter s.inService k (s.stage k).reported r.pos := by
  rw [positionRecord_switched r s k]
  rfl

theorem listed_of_positionRecord (r : PositionReport) (s : State) (k : StageIx) :
    { s with inService := (State.positionRecord r s k).inService } = s.listed k r.pos := by
  rw [positionRecord_inService, State.listed]

theorem testSatisfied_drops {s : State} {k : StageIx} {e : QueueEntry} (he : s.entryOf k = some e)
    (idle : (s.stage k).inFlight = none)
    (h : (e.op = .open ∧ (s.stage k).reported = some .open) ∨ (e.op = .close ∧ (s.stage k).reported = some .closed)) :
    s.testSatisfied k = s.dropEntry e .satisfied := by
  rw [State.testSatisfied, he]
  exact if_pos (by rw [State.inFlightOf, idle, positionOp_iff.2 h]; simp)

theorem testSatisfied_keepsEntry {s : State} {k : StageIx} (h : ∀ e, s.entryOf k = some e → ¬ ((s.stage k).inFlight = none
    ∧ ((e.op = .open ∧ (s.stage k).reported = some .open) ∨ (e.op = .close ∧ (s.stage k).reported = some .closed)))) :
    s.testSatisfied k = s := by
  cases he : s.entryOf k with
  | none => rw [State.testSatisfied, he]
  | some e =>
    rw [State.testSatisfied, he]
    refine if_neg fun reached => h e he ?_
    rw [Bool.and_eq_true, decide_eq_true_eq] at reached
    exact ⟨by simpa [State.inFlightOf] using reached.1, positionOp_iff.1 reached.2⟩

/-- The record of a report behind its first step, with an operation in flight. -/
theorem seenReport_flying {a : Stage} {f : InFlight} (s : State) (pos : Position) (hf : a.inFlight = some f) :
    seenReport s pos a = { a with
      reported := some pos, arrival := some s.now, silenceFrom := s.now, silent := false
      stable := if pos = .open ∨ pos = .closed then some pos else a.stable
      cooling := if a.stable = some .closed ∧ pos = .open then a.cfg.cooldown * 1000 else a.cooling
      moving := if pos = .moving then a.moving else none } := by
  have moving : movingAfter s.link pos s.now (reportStage pos s.now a) = if pos = .moving then a.moving else none := by
    unfold movingAfter
    rw [show (reportStage pos s.now a).inFlight = some f from hf, if_neg (c := _ ∧ _) fun h => by cases h.2.1]
    rfl
  unfold seenReport seenStage
  rw [moving]
  rfl

/-- The record of a completed OPEN. -/
theorem completeStage_open (s : State) (pos : Position) (a : Stage) :
    completeStage .open (seenReport s pos a) = { seenReport s pos a with
      inFlight := none, state := if a.lockoutPending then .lockedOut else .openCooling
      cooling := if (a.stable = some .closed ∧ pos = .open) ∨ a.cooling = 0 then a.cfg.cooldown * 1000 else a.cooling
      lockoutPending := false, closedInCooldown := false } := by
  have cooling : (if (seenReport s pos a).cooling = 0 then fullCooldown (seenReport s pos a) else (seenReport s pos a).cooling)
      = if (a.stable = some .closed ∧ pos = .open) ∨ a.cooling = 0 then a.cfg.cooldown * 1000 else a.cooling := by
    show (if (if a.stable = some .closed ∧ pos = .open then a.cfg.cooldown * 1000 else a.cooling) = 0 then a.cfg.cooldown * 1000
      else if a.stable = some .closed ∧ pos = .open then a.cfg.cooldown * 1000 else a.cooling) = _
    by_cases turned : a.stable = some .closed ∧ pos = .open
    · simp [turned]
    · simp [turned]
  unfold completeStage
  dsimp only
  rw [cooling]
  rfl

/-- What leaving CLOSED leaves of a record. -/
theorem leavesClosed_stage (s : State) (k : StageIx) (was : Option Position) (pos : Position) :
    ∃ x y n z, (s.leavesClosed k was pos).stage k = { s.stage k with
      unbalanceAlarm := x, overload := y, overCount := n, unb := z } := by
  rw [(leavesClosed_records s k was pos).own]
  split
  · exact ⟨_, _, _, _, rfl⟩
  · exact ⟨_, _, _, _, rfl⟩

theorem leavesClosed_queue (s : State) (k : StageIx) (was : Option Position) (pos : Position) :
    (s.leavesClosed k was pos).queue = s.queue := by
  rw [(leavesClosed_records s k was pos).only]

/-- The record of a report that completes, fails or leaves the operation in flight, before anything else follows from it. -/
def State.becomes (s : State) (k : StageIx) (pos : Position) (b : Stage) : State := (s.listed k pos).changeStage k fun _ => b

theorem State.becomes_stage (s : State) (k : StageIx) (pos : Position) (b : Stage) : (s.becomes k pos b).stage k = b :=
  changeStage_stage ..

theorem State.becomes_hasEntry (s : State) (k j : StageIx) (pos : Position) (b : Stage) :
    (s.becomes k pos b).hasEntry j = s.hasEntry j := State.hasEntry_congr (changeStage_queue ..) j

section
variable {s : State} {k : StageIx} {f : InFlight} {r : PositionReport}

theorem positionRecord_completes (enabled : (s.stage k).cfg.enabled = true) (hf : (s.stage k).inFlight = some f)
    (done : r.completes f) : State.positionRecord r s k =
      ((s.becomes k r.pos (completeStage f.op (seenReport s r.pos (s.stage k)))).testSatisfied k).selection.leavesClosed k
        (s.stage k).reported r.pos := by
  rw [positionRecord_flight r enabled hf, reportFlight_completes done, State.completeOperation, reported_changeStage]
  rfl

theorem positionRecord_fails (enabled : (s.stage k).cfg.enabled = true) (hf : (s.stage k).inFlight = some f)
    (undone : ¬ r.completes f) (fails : r.fails f) : State.positionRecord r s k =
      (((((s.becomes k r.pos (failStage (seenReport s r.pos (s.stage k)))).notice
        (.switchFailure k f (failureOf r f) (some r.pos))).trigger .switchFailure (some k)
        (s.yardIx.map (·.1))).testSatisfied k).selection).leavesClosed k (s.stage k).reported r.pos := by
  rw [positionRecord_flight r enabled hf, reportFlight_fails undone fails, failOperation_eq, reported_changeStage,
    State.reported_stage]
  rfl

theorem positionRecord_stays (enabled : (s.stage k).cfg.enabled = true) (hf : (s.stage k).inFlight = some f)
    (undone : ¬ r.completes f) (stays : ¬ r.fails f) : State.positionRecord r s k =
      (s.becomes k r.pos (seenReport s r.pos (s.stage k))).leavesClosed k (s.stage k).reported r.pos := by
  rw [positionRecord_flight r enabled hf, reportFlight_stays undone stays, reported_changeStage]
  rfl

/-- Without a queued entry the test and the selection behind a report leave its record. -/
theorem satisfied_selection_stage {u : State} (free : u.hasEntry k = false) :
    (u.testSatisfied k).selection.stage k = u.stage k := by
  rw [testSatisfied_of_free free, selection_stage_of_free free]

end

/-- Settles O43. -/
theorem operationsCompleteOrFail : Obligations.OperationsCompleteOrFail := by
  refine ⟨fun s k f r enabled hf free => ?_, fun s k f r enabled hf => ?_,
    fun s k => ⟨fun e he reached => testSatisfied_drops he reached.1 reached.2, testSatisfied_keepsEntry⟩⟩
  · have switched := positionRecord_switched r s k
    rw [← listed_of_positionRecord] at switched
    have stage (u : State) := leavesClosed_stage u k (s.stage k).reported r.pos
    have noEntry (b : Stage) : (s.becomes k r.pos b).hasEntry k = false := (s.becomes_hasEntry k k r.pos b).trans free
    by_cases done : r.completes f
    · obtain ⟨_, _, _, _, e⟩ := stage ((s.becomes k r.pos (completeStage f.op (seenReport s r.pos (s.stage k)))).testSatisfied k).selection
      rw [satisfied_selection_stage (noEntry _), State.becomes_stage, ← positionRecord_completes enabled hf done] at e
      refine ⟨fun _ => ?_, fun undone => absurd done undone, fun undone => absurd done undone, ?_, switched⟩
      · rw [e]
        cases hop : f.op using Operation.named with
        | close => exact ⟨rfl, fun _ => ⟨rfl, rfl⟩, nofun⟩
        | opens =>
          have hpos : r.pos = .open := by have := done.2.2; simp_all
          refine ⟨rfl, nofun, fun _ => ⟨rfl, rfl, rfl, ?_⟩⟩
          refine (congrArg Stage.cooling (completeStage_open s r.pos (s.stage k))).trans ?_
          simp [hpos]
      · rw [e]
        cases f.op <;> rfl
    · by_cases fails : r.fails f
      · set u := ((s.becomes k r.pos (failStage (seenReport s r.pos (s.stage k)))).notice
          (.switchFailure k f (failureOf r f) (some r.pos))).trigger .switchFailure (some k) (s.yardIx.map (·.1)) with hu
        have free : u.hasEntry k = false := (State.hasEntry_congr (by rw [hu, trigger_queue, notice_queue]) k).trans (noEntry _)
        obtain ⟨_, _, _, _, e⟩ := stage (u.testSatisfied k).selection
        rw [satisfied_selection_stage free, hu, trigger_stage, notice_stage, State.becomes_stage,
          ← positionRecord_fails enabled hf done fails] at e
        refine ⟨fun h => absurd h done, fun _ _ => ?_, fun _ stays => absurd fails stays, ?_, switched⟩
        · rw [e]
          exact ⟨rfl, rfl, rfl⟩
        · rw [e]; rfl
      · obtain ⟨_, _, _, _, e⟩ := stage (s.becomes k r.pos (seenReport s r.pos (s.stage k)))
        rw [State.becomes_stage, ← positionRecord_stays enabled hf done fails] at e
        refine ⟨fun h => absurd h done, fun _ h => absurd h fails, fun _ _ => ?_, ?_, switched⟩
        · rw [e]
          refine ⟨hf, rfl, ?_⟩
          rw [positionRecord_stays enabled hf done fails, leavesClosed_queue]
          exact changeStage_queue ..
        · rw [e]; rfl
  · dsimp only
    rw [listed_of_positionRecord, ← seenReport_flying s r.pos hf]
    refine ⟨fun done => (positionRecord_completes enabled hf done).trans ?_,
      fun undone fails => (positionRecord_fails enabled hf undone fails).trans ?_,
      fun undone stays => (positionRecord_stays enabled hf undone stays).trans rfl⟩
    · refine congrArg (fun u : State => u.leavesClosed k (s.stage k).reported r.pos)
        (congrArg (fun b => ((s.becomes k r.pos b).testSatisfied k).selection) ?_)
      cases f.op using Operation.named with
      | close => rw [seenReport_flying s r.pos hf]; rfl
      | opens => rw [completeStage_open, seenReport_flying s r.pos hf]
    · rw [seenReport_flying s r.pos hf]
      rfl

end Sys2Proof.Machine
end

section
/-! A POSITION report for a stage with nothing in flight, and the POSITION frame it comes in. -/

namespace Sys2Proof.Machine

/-! ### A report with nothing in flight (R69 to R73) -/

theorem State.becomes_mode (s : State) (k : StageIx) (pos : Position) (b : Stage) : (s.becomes k pos b).mode = s.mode := by
  rw [State.becomes, changeStage_only]; rfl

/-- A report with nothing in flight: the record, the OPEN of a stage closed out of LOCKED_OUT, the notice of a closing within
the cooldown, and the test of the queued entry. -/
theorem positionRecord_reacts {s : State} {k : StageIx} (r : PositionReport) (enabled : (s.stage k).cfg.enabled = true)
    (hf : (s.stage k).inFlight = none) : State.positionRecord r s k =
      let a := s.stage k
      let one := s.becomes k r.pos (reactedReport s r.pos a)
      let two := if r.pos = .closed ∧ a.awaiting = false ∧ a.state = .lockedOut ∧ s.mode ≠ .config then
        (one.gather k .open .protect .unbalanceTrip).1 else one
      let three := if r.pos = .closed ∧ a.awaiting = false ∧ (a.state = .openCooling ∨ (a.state = .lockedOut ∧ 0 < a.cooling)) then
        two.notice (.closedInCooldown k a.cooling) else two
      (three.testSatisfied k).leavesClosed k a.reported r.pos := by
  have mode := s.becomes_mode k r.pos (reactedReport s r.pos (s.stage k))
  rw [positionRecord_idle r enabled hf, State.reportIdle, reported_changeStage]
  dsimp only
  rw [← mode]
  refine congrArg (fun u : State => (u.testSatisfied k).leavesClosed k (s.stage k).reported r.pos) ?_
  unfold closedWithin
  rw [show (reportStage r.pos s.now (s.stage k)).awaiting = (s.stage k).awaiting from rfl,
    show (reportStage r.pos s.now (s.stage k)).state = (s.stage k).state from rfl,
    show (reportStage r.pos s.now (s.stage k)).cooling = (s.stage k).cooling from rfl]
  by_cases cooled : r.pos = .closed ∧ (s.stage k).awaiting = false
    ∧ ((s.stage k).state = .openCooling ∨ ((s.stage k).state = .lockedOut ∧ 0 < (s.stage k).cooling))
  · rw [if_pos cooled, if_pos cooled]; rfl
  · rw [if_neg cooled, if_neg cooled]; rfl

/-- The record of a report behind its first step, with nothing in flight. -/
theorem seenReport_resting {a : Stage} (s : State) (pos : Position) (hf : a.inFlight = none) :
    seenReport s pos a = { a with
      reported := some pos, arrival := some s.now, silenceFrom := s.now, silent := false
      stable := if pos = .open ∨ pos = .closed then some pos else a.stable
      cooling := if a.stable = some .closed ∧ pos = .open then a.cfg.cooldown * 1000 else a.cooling
      moving := if pos ≠ .moving then none
        else if a.moving = none ∧ a.state ≠ .failed then some ⟨s.now, movingLimit s.link a.stable⟩ else a.moving } := by
  have moving : movingAfter s.link pos s.now (reportStage pos s.now a) = if pos ≠ .moving then none
      else if a.moving = none ∧ a.state ≠ .failed then some ⟨s.now, movingLimit s.link a.stable⟩ else a.moving := by
    unfold movingAfter
    rw [show (reportStage pos s.now a).inFlight = none from hf]
    cases pos <;> simp [reportStage]
  unfold seenReport seenStage
  rw [moving]
  rfl

theorem testSatisfied_stage (s : State) (k j : StageIx) : (s.testSatisfied k).stage j = s.stage j := by
  unfold State.testSatisfied
  split
  · rfl
  · split
    · exact dropEntry_stage ..
    · rfl

/-- What a sending leaves of a record is what a report has seen. -/
theorem sendEntry_sees (s : State) (e : QueueEntry) (k : StageIx) : ((s.sendEntry e).stage k).reported = (s.stage k).reported
    ∧ ((s.sendEntry e).stage k).arrival = (s.stage k).arrival ∧ ((s.sendEntry e).stage k).silent = (s.stage k).silent := by
  by_cases hk : k = e.stage
  · subst hk; rw [sendEntry_stage]; exact ⟨rfl, rfl, rfl⟩
  · rw [sendEntry_stage_ne s e hk]; exact ⟨rfl, rfl, rfl⟩

theorem gather_sees (s : State) (k j : StageIx) (op : Operation) (c : CmdClass) (o : Origin) :
    let t := (s.gather k op c o).1
    (t.stage j).reported = (s.stage j).reported ∧ (t.stage j).arrival = (s.stage j).arrival
      ∧ (t.stage j).silent = (s.stage j).silent := by
  refine gather_frame (P := fun t => (t.stage j).reported = (s.stage j).reported ∧ (t.stage j).arrival = (s.stage j).arrival
    ∧ (t.stage j).silent = (s.stage j).silent) (fun _ _ h => h) (fun t e r h => ?_) (fun t e ⟨h, h', h''⟩ => ?_)
    ⟨rfl, rfl, rfl⟩ k op c o
  · rw [dropEntry_stage]; exact h
  · obtain ⟨g, g', g''⟩ := sendEntry_sees t e j
    exact ⟨g.trans h, g'.trans h', g''.trans h''⟩

/-- The reaction to a report leaves what the report has set. -/
theorem reactedReport_sees (s : State) (pos : Position) (a : Stage) : (reactedReport s pos a).reported = some pos
    ∧ (reactedReport s pos a).arrival = some s.now ∧ (reactedReport s pos a).silent = false := by
  unfold reactedReport
  cases pos using Position.named with
  | opens => simp only [reactStage, openReport]; split <;> [skip; split] <;> exact ⟨rfl, rfl, rfl⟩
  | closed => simp only [reactStage, closedReport]; split <;> [skip; split] <;> exact ⟨rfl, rfl, rfl⟩
  | moving => exact ⟨rfl, rfl, rfl⟩
  | unknown => simp only [reactStage, unknownReport, lostStage]; split <;> exact ⟨rfl, rfl, rfl⟩

section
variable {s : State} {k : StageIx} (r : PositionReport) (enabled : (s.stage k).cfg.enabled = true)
  (hf : (s.stage k).inFlight = none)
include enabled hf

/-- Behind the OPEN of a stage closed out of LOCKED_OUT only leaving CLOSED acts on the record. -/
theorem positionRecord_stage : ∃ x y n z, (State.positionRecord r s k).stage k =
    { (if r.pos = .closed ∧ (s.stage k).awaiting = false ∧ (s.stage k).state = .lockedOut ∧ s.mode ≠ .config then
        ((s.becomes k r.pos (reactedReport s r.pos (s.stage k))).gather k .open .protect .unbalanceTrip).1
      else s.becomes k r.pos (reactedReport s r.pos (s.stage k))).stage k with
      unbalanceAlarm := x, overload := y, overCount := n, unb := z } := by
  have record := positionRecord_reacts r enabled hf
  dsimp only at record
  generalize (if r.pos = .closed ∧ (s.stage k).awaiting = false ∧ (s.stage k).state = .lockedOut ∧ s.mode ≠ .config then
    ((s.becomes k r.pos (reactedReport s r.pos (s.stage k))).gather k .open .protect .unbalanceTrip).1
    else s.becomes k r.pos (reactedReport s r.pos (s.stage k))) = two at record ⊢
  have noted : (if r.pos = .closed ∧ (s.stage k).awaiting = false
      ∧ ((s.stage k).state = .openCooling ∨ ((s.stage k).state = .lockedOut ∧ 0 < (s.stage k).cooling)) then
      two.notice (.closedInCooldown k (s.stage k).cooling) else two).stage k = two.stage k := by
    split
    · exact notice_stage ..
    · rfl
  generalize (if r.pos = .closed ∧ (s.stage k).awaiting = false
    ∧ ((s.stage k).state = .openCooling ∨ ((s.stage k).state = .lockedOut ∧ 0 < (s.stage k).cooling)) then
    two.notice (.closedInCooldown k (s.stage k).cooling) else two) = three at record noted
  obtain ⟨x, y, n, z, e⟩ := leavesClosed_stage (three.testSatisfied k) k (s.stage k).reported r.pos
  rw [testSatisfied_stage, noted] at e
  exact ⟨x, y, n, z, record ▸ e⟩

theorem positionRecord_sees : let t := State.positionRecord r s k
    (t.stage k).reported = some r.pos ∧ (t.stage k).arrival = some s.now ∧ (t.stage k).silent = false := by
  have sees := reactedReport_sees s r.pos (s.stage k)
  obtain ⟨x, y, n, z, e⟩ := positionRecord_stage r enabled hf
  dsimp only
  rw [e]
  set one := s.becomes k r.pos (reactedReport s r.pos (s.stage k)) with hone
  have own : one.stage k = _ := s.becomes_stage k r.pos _
  rw [← own] at sees
  dsimp only
  split
  · obtain ⟨g, g', g''⟩ := gather_sees one k k .open .protect .unbalanceTrip
    exact ⟨g.trans sees.1, g'.trans sees.2.1, g''.trans sees.2.2⟩
  · exact sees

theorem positionRecord_other (stays : ¬ (r.pos = .closed ∧ (s.stage k).awaiting = false ∧ (s.stage k).state = .lockedOut
    ∧ s.mode ≠ .config)) {j : StageIx} (hj : j ≠ k) : (State.positionRecord r s k).stage j = s.stage j := by
  rw [positionRecord_reacts r enabled hf]
  dsimp only
  rw [if_neg stays, (leavesClosed_records _ k _ _).other hj, testSatisfied_stage]
  have kept : (s.becomes k r.pos (reactedReport s r.pos (s.stage k))).stage j = s.stage j := changeStage_stage_ne _ _ hj
  split
  · rw [notice_stage, kept]
  · rw [kept]

theorem positionRecord_resting_stage (stays : ¬ (r.pos = .closed ∧ (s.stage k).awaiting = false
    ∧ (s.stage k).state = .lockedOut ∧ s.mode ≠ .config)) : ∃ x y n z, (State.positionRecord r s k).stage k =
      { reactedReport s r.pos (s.stage k) with unbalanceAlarm := x, overload := y, overCount := n, unb := z } := by
  have record := positionRecord_stage r enabled hf
  rwa [if_neg stays, State.becomes_stage] at record

end

/-! ### The frame of a report (R67) -/

theorem positionOfCode_eq_none {b : Byte} : positionOfCode b = none ↔ 3 < b.toNat := by
  unfold positionOfCode
  split <;> [skip; split <;> [skip; split <;> [skip; split]]] <;> simp <;> bv_omega

theorem tagResultOfCode_eq_none {b : Byte} : tagResultOfCode b = none ↔ 2 < b.toNat := by
  unfold tagResultOfCode
  split <;> [skip; split <;> [skip; split]] <;> simp <;> bv_omega

theorem positionOfCode_code (p : Position) : positionOfCode (BitVec.ofNat 8 (positionCode p)) = some p := by
  cases p <;> rfl

/-- The POSITION payload of a report. -/
theorem readPosition_of_length {bs : List Byte} (h : bs.length = 3) : readPosition bs =
    (positionOfCode (byteAt bs 0)).bind fun pos => (tagResultOfCode (byteAt bs 2)).map fun res => ⟨pos, byteAt bs 1, res⟩ := by
  match bs, h with
  | [p, t, r], _ => rfl

theorem readPosition_malformed {bs : List Byte}
    (h : bs.length ≠ 3 ∨ 3 < (byteAt bs 0).toNat ∨ 2 < (byteAt bs 2).toNat) : readPosition bs = none := by
  by_cases length : bs.length = 3
  · rw [readPosition_of_length length]
    rcases h.resolve_left (not_not.2 length) with h | h
    · rw [positionOfCode_eq_none.2 h]; rfl
    · rw [tagResultOfCode_eq_none.2 h]
      cases positionOfCode (byteAt bs 0) <;> rfl
  · unfold readPosition
    split
    · exact absurd rfl length
    · rfl

/-- Settles O39. -/
theorem idleReportsChangeState : Obligations.IdleReportsChangeState := by
  refine ⟨?_, ?_, ?_, ?_, ?_⟩
  · intro s k r enabled hf calm a t
    have switched := positionRecord_switched r s k
    rw [← listed_of_positionRecord] at switched
    obtain ⟨reported, arrival, silent⟩ := positionRecord_sees r enabled hf
    refine ⟨fun j hj unlocked => ?_, fun hp hst free => ?_, fun hp hst pend => ?_, fun hp hst => ?_, fun hp hst => ?_,
      fun hp known => ?_, fun hp => ?_, reported, arrival, silent, switched⟩
    · exact positionRecord_other r enabled hf (fun h => unlocked h.2.2.1) hj
    · obtain ⟨_, _, _, _, e⟩ := positionRecord_resting_stage r enabled hf fun h => absurd (hp.symm.trans h.1) (by decide)
      rw [show t.stage k = _ from e, hp]
      simp [reactedReport, reactStage, openReport, seenReport_awaiting, seenReport_state, seenReport_pending, calm,
        show (s.stage k).state = _ from hst, show (s.stage k).lockoutPending = _ from free, fullCooldown, seenReport_cfg, a]
    · obtain ⟨_, _, _, _, e⟩ := positionRecord_resting_stage r enabled hf fun h => absurd (hp.symm.trans h.1) (by decide)
      rw [show t.stage k = _ from e, hp]
      simp [reactedReport, reactStage, openReport, seenReport_awaiting, seenReport_state, seenReport_pending, calm,
        show (s.stage k).state = _ from hst, show (s.stage k).lockoutPending = _ from pend, fullCooldown, seenReport_cfg, a]
    · obtain ⟨_, _, _, _, e⟩ := positionRecord_resting_stage r enabled hf fun h => absurd (hst.symm.trans h.2.2.1) (by decide)
      rw [show t.stage k = _ from e, hp]
      simp [reactedReport, reactStage, closedReport, seenReport_awaiting, seenReport_state, calm,
        show (s.stage k).state = _ from hst, a]
      rfl
    · obtain ⟨_, _, _, _, e⟩ := positionRecord_resting_stage r enabled hf fun h => absurd (hst.symm.trans h.2.2.1) (by decide)
      rw [show t.stage k = _ from e, hp]
      simp [reactedReport, reactStage, closedReport, seenReport_awaiting, seenReport_state, calm,
        show (s.stage k).state = _ from hst]
    · obtain ⟨_, _, _, _, e⟩ := positionRecord_resting_stage r enabled hf fun h => absurd (hp.symm.trans h.1) (by decide)
      rw [show t.stage k = _ from e, hp]
      show (unknownReport (seenReport s .unknown (s.stage k))).state = .failed
      unfold unknownReport
      split
      · next h => exact h.resolve_left known
      · rfl
    · obtain ⟨_, _, _, _, e⟩ := positionRecord_resting_stage r enabled hf fun h => absurd (hp.symm.trans h.1) (by decide)
      rw [show t.stage k = _ from e, hp]
      refine ⟨rfl, fun still unfailed => ?_⟩
      dsimp only [reactedReport, reactStage]
      rw [seenReport_resting s .moving hf]
      dsimp only
      rw [if_neg (by simp), if_pos ⟨still, unfailed⟩]
      rfl
  · intro s k r enabled hf a t full turned seen uncool opened closed b reopened cooled left one two three
    have hseen : seen = seenReport s r.pos a := (seenReport_resting s r.pos hf).symm
    have hb : b = reactedReport s r.pos a := by
      unfold b reactedReport
      rw [← hseen]
      cases hp : r.pos using Position.named with
      | opens =>
        have hturned : turned ↔ a.stable = some .closed := by simp [turned, hp]
        simp only [reactStage, openReport, opened, uncool, hturned]
        rfl
      | closed =>
        simp only [reactStage, closedReport, show seen.awaiting = a.awaiting from rfl, show seen.state = a.state from rfl]
        have cool : seen.cooling = a.cooling := if_neg (by rintro ⟨-, e⟩; rw [hp] at e; cases e)
        split
        · rfl
        · cases a.state with
          | lockedOut => dsimp only; rw [cool]
          | _ => rfl
      | moving => rfl
      | unknown => rfl
    have hone : one = s.becomes k r.pos (reactedReport s r.pos a) := by
      unfold one State.becomes
      rw [hb, listed_of_positionRecord]
    clear_value one
    subst hone
    refine ⟨positionRecord_reacts r enabled hf, fun stays => ?_⟩
    unfold three two
    rw [testSatisfied_stage, if_neg stays, hb]
    split
    · rw [notice_stage, State.becomes_stage]
    · rw [State.becomes_stage]
  · intro s k a kept one two three
    refine (leftClosed_eq s k).trans ?_
    have hkept : (a.unbalanceAlarm = true ∧ ¬ kept) ↔ a.unbalanceAlarm = true ∧ lockoutKeeps a = false := by
      simp [kept, lockoutKeeps]
    have htwo : two = if a.unbalanceAlarm = true ∧ lockoutKeeps a = false then
        one.notice (.unbalanceAlarm k false (some .leftClosed) none none) else one := by simp only [two, hkept]
    have hthree : three = (a.unb.capture.map fun x => two.notice (.balanceAbandoned k .leftClosed x.count)).getD two := by
      unfold three
      cases a.unb.capture <;> rfl
    rw [hthree, htwo]
    rfl
  · intro s src payload
    refine ⟨fun bad => ?_, fun unknown length hp hr => ?_, fun pos res length hp hr => ?_⟩
    · rw [State.positionFrame, readPosition_malformed bad]
    · have none : (allStages.filter fun k => (s.stage k).cfg.unit = some src) = [] := by
        rw [List.filter_eq_nil_iff]
        exact fun k _ => by simpa using unknown k
      obtain ⟨pos, hpos⟩ := Option.ne_none_iff_exists'.1 (mt positionOfCode_eq_none.1 (not_lt.2 hp))
      obtain ⟨res, hres⟩ := Option.ne_none_iff_exists'.1 (mt tagResultOfCode_eq_none.1 (not_lt.2 hr))
      rw [State.positionFrame, readPosition_of_length length, hpos, hres]
      exact congrArg (List.foldl _ s) none
    · have hres : tagResultOfCode (byteAt payload 2) = some res := by rw [hr]; cases res <;> rfl
      rw [State.positionFrame, readPosition_of_length length, hp, positionOfCode_code, hres]
      rfl
  · intro s k r
    refine ⟨?_, fun disabled => ?_⟩
    · rw [positionRecord_inService, inServiceAfter]
      by_cases closed : r.pos = .closed <;> by_cases was : (s.stage k).reported = some .closed <;> simp [closed, was]
    · rw [positionRecord_disabled r disabled]
      rfl

end Sys2Proof.Machine
end

section
/-! WRITE CONTROL and the capture requests. -/

namespace Sys2Proof.Machine

/-! ### WRITE CONTROL (R107, R108) -/

theorem setInForce_iff {s : State} {i : SetId} :
    s.setInForce = some i ↔ (i = .A ∧ s.mode = .service) ∨ (i = .B ∧ s.mode = .fallback) := by
  unfold State.setInForce
  cases s.mode <;> cases i <;> simp

theorem writeSet_vc (s : State) (i : SetId) (c : ControlSet) : s.writeSet i c = { s.storeSet i c with
    vc := if (i = .A ∧ s.mode = .service) ∨ (i = .B ∧ s.mode = .fallback) then
      { s.vc with acc := 0, withheld := .clear, hold := c.settleHold } else s.vc } := by
  unfold State.writeSet
  simp only [setInForce_iff]
  split
  · cases i <;> rfl
  · cases i <;> rfl

theorem clampedPhases_eq (p : PhaseSet) :
    clampedPhases p = if p = ⟨false, false, false⟩ then ⟨true, false, false⟩ else p := by
  obtain ⟨a, b, c⟩ := p
  cases a <;> cases b <;> cases c <;> rfl

theorem writePhases_vc (s : State) (p : PhaseSet) : s.writePhases p = { s with
    phases := p
    vc := if s.mode = .config then s.vc else
      { s.vc with
        acc := 0, withheld := .clear, hold := if s.mode = .fallback then s.setB.settleHold else s.setA.settleHold
        overCount := 0, fastCount := 0, deadCount := 0, restoreCount := 0, missing := 0, fastPending := false } } := by
  unfold State.writePhases
  by_cases stopped : s.mode = .config
  · rw [if_neg (by simp [State.running, stopped]), if_pos stopped]
  · rw [if_pos ((State.running_iff s).2 stopped), if_neg stopped]
    unfold State.modVc State.forceSet clearCounts restartHold
    split <;> rfl

/-- Settles O48. -/
theorem writeControlStoresAndRestarts : Obligations.WriteControlStoresAndRestarts := by
  intro s rq h
  refine ⟨fun i => request_answers h rq _ rfl, request_answers h rq _ rfl, fun i w => request_answers h rq _ ?_,
    fun p => request_answers h rq _ ?_, fun w => ?_⟩
  · refine Prod.ext ((writeSet_vc s i (clampedSet w)).trans ?_) rfl
    cases i <;> rfl
  · unfold State.doWriteControlPhases
    dsimp only
    rw [writePhases_vc, clampedPhases_eq]
  · simp only [clampedSet]
    refine ⟨clampNat_eq (by omega) _, clampNat_eq (by omega) _, clampNat_eq (by omega) _, ?_, ?_, clampNat_eq (by omega) _,
      clampNat_eq (by omega) _, clampNat_eq (by omega) _, clampNat_eq (by omega) _, ?_, clampNat_eq (by omega) _⟩
    · rw [clampNat_eq (by omega), Nat.zero_max]
    · rw [clampNat_eq (by omega), Nat.zero_max]
    · rw [clampNat_eq (lo := 500) (by omega)]

/-! ### The capture requests (R170 to R173) -/

theorem channels_eq_nil {s : State} : s.channels = [] ↔ ∀ e ∈ s.map, e.capture = false ∨ e.role = none := by
  unfold State.channels channelsOf
  rw [List.filterMap_eq_nil_iff]
  refine forall₂_congr fun e _ => ?_
  cases e.capture <;> simp

theorem captureModeOfCode_eq {b : Byte} (h : b = 0 ∨ b = 1) :
    captureModeOfCode b = some (if b = 0 then .single else .repeating) := by
  rcases h with rfl | rfl <;> rfl

theorem captureModeOfCode_none {b : Byte} (h : b ≠ 0) (g : b ≠ 1) : captureModeOfCode b = none := by
  rw [captureModeOfCode, if_neg h, if_neg g]

theorem doArmCapture_arms {s : State} {w : Option ArmWrite} {c : CaptureState} (hc : readArm s.cap w = some c)
    (still : ¬ (s.cap.status = .recording ∨ s.cap.status = .held)) (mapped : s.channels ≠ []) :
    s.doArmCapture w = ({ s with cap := { trimmedStore c with status := .armed } }, carried (armBrought w) (encCaptureSettings c)) := by
  rw [State.doArmCapture, hc]
  dsimp only
  rw [if_neg still, if_neg mapped]

/-- What a manual trigger does, by the mask and the state of capture (R166, R173). -/
theorem doTriggerCapture_masked {s : State} (h : s.cap.mask[5] = false) : s.doTriggerCapture = (s, doneWith [3]) := by
  rw [State.doTriggerCapture, State.triggerWith, if_pos (by simp [causeIx, h])]
  rfl

section
variable {s : State} (h : s.cap.mask[5] = true)
include h

theorem doTriggerCapture_starts (hs : s.cap.status = .armed) :
    s.doTriggerCapture = (s.startRecord .request none (s.yardIx.map (·.1)), doneWith [0]) := by
  rw [State.doTriggerCapture, State.triggerWith, if_neg (by simp [causeIx, h]), hs]
  rfl

theorem doTriggerCapture_joins (hs : s.cap.status = .recording) : s.doTriggerCapture = (s.joinRecord, doneWith [1]) := by
  rw [State.doTriggerCapture, State.triggerWith, if_neg (by simp [causeIx, h]), hs]
  rfl

theorem doTriggerCapture_misses (hs : s.cap.status = .held ∨ s.cap.status = .disarmed) :
    s.doTriggerCapture = ({ s with cap := { s.cap with missed := bump s.cap.missed } }, doneWith [2]) := by
  rw [State.doTriggerCapture, State.triggerWith, if_neg (by simp [causeIx, h])]
  rcases hs with hs | hs <;> rw [hs] <;> rfl

end

theorem doReadCapture_refuses {s : State} (held : s.cap.status = .held) {window channel : Byte}
    (far : s.pieceData window.toNat channel.toNat = none) : s.doReadCapture window channel = (s, refused .index) := by
  rw [State.doReadCapture, if_neg (by simp [held]), far]

theorem doReadCapture_answers {s : State} (held : s.cap.status = .held) {window channel : Byte} {d : List Byte}
    (near : s.pieceData window.toNat channel.toNat = some d) : s.doReadCapture window channel = (s, doneWith d) := by
  rw [State.doReadCapture, if_neg (by simp [held]), near]

theorem pieceData_none {s : State} {h : RecordHeader} (header : s.cap.header = some h) {window channel : Nat}
    (far : s.cap.store.length ≤ window ∨ h.channels.length ≤ channel) : s.pieceData window channel = none := by
  unfold State.pieceData
  rw [header]
  rcases far with far | far
  · rw [List.getElem?_eq_none far]
  · split
    · next e _ => cases e; exact if_neg (not_lt.2 far)
    · rfl

theorem pieceData_some {s : State} {h : RecordHeader} (header : s.cap.header = some h) {window channel : Nat}
    {x : CaptureWindow} {p : Piece} (hx : s.cap.store[window]? = some x) (near : channel < h.channels.length)
    (hp : x.pieces[channel]? = some p) : s.pieceData window channel
      = some (encHeader h s.cap.store.length s.cap.cutShort ++ be 2 x.w.toNat ++ encPiece p) := by
  unfold State.pieceData
  rw [header, hx]
  dsimp only
  rw [if_pos near, hp]
  rfl

/-- Settles O54. -/
theorem captureRequestsByState : Obligations.CaptureRequestsByState := by
  intro s rq h c
  refine ⟨fun w => ?_, fun code hcode => ?_, fun window channel => ⟨fun unheld => request_answers h rq _ (if_pos unheld),
    fun hd held header => ⟨fun far => request_answers h rq _ (doReadCapture_refuses held (pieceData_none header far)),
      fun x p hx near hp => request_answers h rq _ (doReadCapture_answers held (pieceData_some header hx near hp))⟩⟩,
    fun recording => request_answers h rq _ ?_, fun still => request_answers h rq _ ?_⟩
  · have refuses (r : Reason) (e : s.doArmCapture w = (s, refused r)) :
        exec (.armCapture rq w) s = .next (s.reply rq 0x50 false (refused r)) := request_answers h rq _ e
    dsimp only
    by_cases unknown : ∃ x, w = some x ∧ x.mode ≠ 0 ∧ x.mode ≠ 1
    · rw [if_pos unknown]
      obtain ⟨x, rfl, h0, h1⟩ := unknown
      refine refuses _ ?_
      rw [State.doArmCapture, readArm, captureModeOfCode_none h0 h1]
      rfl
    · rw [if_neg unknown]
      have read : readArm s.cap w = some (match w with
          | none => c
          | some x => { c with
              mode := if x.mode = 0 then .single else .repeating, preCount := min x.preCount.toNat 15, mask := x.mask }) := by
        cases w with
        | none => rfl
        | some x =>
          rw [readArm, captureModeOfCode_eq (by by_contra no; exact unknown ⟨x, rfl, not_or.1 no⟩), clampNat_eq (by omega),
            Nat.zero_max]
          rfl
      by_cases busy : c.status = .recording ∨ c.status = .held
      · rw [if_pos busy]
        refine refuses _ ?_
        rw [State.doArmCapture, read]
        exact if_pos busy
      · rw [if_neg busy]
        by_cases unmapped : ∀ e ∈ s.map, e.capture = false ∨ e.role = none
        · rw [if_pos unmapped]
          refine refuses _ ?_
          rw [State.doArmCapture, read]
          exact (if_neg busy).trans (if_pos (channels_eq_nil.2 unmapped))
        · rw [if_neg unmapped]
          refine request_answers h rq _ ((doArmCapture_arms read busy (mt channels_eq_nil.1 unmapped)).trans ?_)
          cases w <;> rfl
  · cases mask : c.mask[5] with
    | false =>
      rw [if_pos mask] at hcode
      subst hcode
      exact ⟨s, request_answers h rq _ (doTriggerCapture_masked mask), rfl, rfl, fun _ => rfl, nofun, nofun, nofun⟩
    | true =>
      rw [if_neg (by simp [mask])] at hcode
      have missed (hs : c.status = .held ∨ c.status = .disarmed) (two : code = 2) : ∃ t : State,
          exec (.triggerCapture rq) s = .next (t.reply rq 0x51 false (doneWith [code])) ∧ t = { s with cap := t.cap }
          ∧ t.cap.store = c.store ∧ code = 2 ∧ t.cap = { c with missed := bump c.missed } :=
        ⟨{ s with cap := { s.cap with missed := bump s.cap.missed } },
          two ▸ request_answers h rq _ (doTriggerCapture_misses mask hs), rfl, rfl, two, rfl⟩
      cases hs : c.status with
      | armed =>
        rw [hs] at hcode; subst hcode
        exact ⟨_, request_answers h rq _ (doTriggerCapture_starts mask hs), rfl, rfl, nofun, fun _ => ⟨rfl, rfl⟩, nofun, nofun⟩
      | recording =>
        rw [hs] at hcode; subst hcode
        exact ⟨_, request_answers h rq _ (doTriggerCapture_joins mask hs), rfl, rfl, nofun, nofun,
          fun _ => ⟨congrArg (fun x => { c with status := x, header := s.joinRecord.cap.header }) hs, fun hd header => congrArg (Option.map _) header⟩, nofun⟩
      | held =>
        rw [hs] at hcode
        obtain ⟨t, runs, only, store, rfl, cap⟩ := missed (.inl hs) hcode
        exact ⟨t, runs, only, store, nofun, nofun, nofun, fun _ => cap.trans (by rw [← hs])⟩
      | disarmed =>
        rw [hs] at hcode
        obtain ⟨t, runs, only, store, rfl, cap⟩ := missed (.inr hs) hcode
        exact ⟨t, runs, only, store, nofun, nofun, nofun, fun _ => cap.trans (by rw [← hs])⟩
  · rw [State.doReleaseCapture, recording]
  · unfold State.doReleaseCapture
    cases hs : s.cap.status with
    | armed => simp [c]
    | recording => exact absurd hs still
    | held =>
      dsimp only [c]
      have rearmed : (if s.cap.mode = .repeating then s.rearmed else .disarmed)
          = if s.cap.mode = .single ∨ s.channels = [] then CaptureStatus.disarmed else .armed := by
        cases s.cap.mode <;> simp [State.rearmed]
      rw [State.discardRecord, rearmed]
    | disarmed =>
      dsimp only [c]
      have same : ({ s.cap with status := .disarmed } : CaptureState) = s.cap := by rw [← hs]
      rw [same]

end Sys2Proof.Machine
end

section
/-! The resets, start-up and RESTART, and what a lost link leaves of the state. -/

namespace Sys2Proof.Machine

/-! ### The ports and what they count (R12, R17) -/

/-- `t` is `s` but for the ports, the unused check bytes and the two counters of discarded frames. -/
def onlyLines (s t : State) : Prop :=
  t = { s with
    portS := t.portS, portF := t.portF, fresh := t.fresh, repliesDropped := t.repliesDropped
    noticesDropped := t.noticesDropped }

theorem onlyLines_iff {s t : State} : onlyLines s t ↔ ∃ a b n r d,
    t = { s with portS := a, portF := b, fresh := n, repliesDropped := r, noticesDropped := d } :=
  ⟨fun h => ⟨_, _, _, _, _, h⟩, by rintro ⟨_, _, _, _, _, rfl⟩; rfl⟩

theorem onlyLines.refl (s : State) : onlyLines s s := rfl

theorem onlyLines.trans {s t u : State} (h : onlyLines s t) (g : onlyLines t u) : onlyLines s u := by
  obtain ⟨_, _, _, _, _, rfl⟩ := onlyLines_iff.1 h
  obtain ⟨_, _, _, _, _, rfl⟩ := onlyLines_iff.1 g
  rfl

theorem modPort_lines (s : State) (p : Port) (f : PortState → PortState) : onlyLines s (s.modPort p f) := by cases p <;> rfl

theorem badFrame_lines (s : State) (p : Port) (f : RxFrame) (upTo : Nat → Nat → Nat) : onlyLines s (s.badFrame p f upTo) :=
  onlyLines_iff.2 ⟨_, _, _, _, _, badFrame_only s p f upTo⟩

theorem loseInput_lines (s : State) (p : Port) : onlyLines s (s.loseInput p) := by
  unfold State.loseInput
  split
  · exact (badFrame_lines ..).trans (modPort_lines ..)
  · exact modPort_lines ..
  · exact modPort_lines ..

theorem countUpDrop_lines (s : State) (k : InsertKind) : onlyLines s (s.countUpDrop k) := by
  unfold State.countUpDrop
  split <;> rfl

theorem enterUp_lines (s : State) (kind : InsertKind) (code dst : Byte) (payload : List Byte) :
    onlyLines s (s.enterUp kind code dst payload) := by
  unfold State.enterUp
  split
  · rfl
  · split
    · rfl
    · exact countUpDrop_lines s kind

theorem countQueue_lines (s : State) (p : Port) (q : List InsertFrame) : onlyLines s (s.countQueue p q) := by
  cases p with
  | F => rfl
  | S => exact foldl_frame onlyLines.refl onlyLines.trans (fun s (f : InsertFrame) => countUpDrop_lines s f.kind) q s

theorem stopOutput_lines (s : State) (p : Port) : onlyLines s (s.stopOutput p) :=
  ((modPort_lines ..).trans (countQueue_lines ..)).trans (modPort_lines ..)

/-! ### The resets and start-up (R183, R185) -/

/-- Settles O57. -/
theorem resetsClearAndStartUpReleases : Obligations.ResetsClearAndStartUpReleases := by
  refine ⟨fun s => ?_, fun s pins reference upS upF => ⟨fun running => ?_, fun held => ?_⟩⟩
  · refine ⟨⟨_, rfl, rfl, rfl⟩, fun free => ?_, fun held other => ?_⟩
    · have enters (c : ResetKind) : s.conditionReset c = s.clearAll c :=
        if_neg fun ⟨hh, hr⟩ => free.elim (fun e => by rw [hh] at e; cases e) hr
      exact ⟨⟨_, congrArg Host.Outcome.next (enters _), rfl, rfl⟩, ⟨_, congrArg Host.Outcome.next (enters _), rfl, rfl⟩⟩
    · exact ⟨congrArg Host.Outcome.next (if_pos ⟨held, other⟩), congrArg Host.Outcome.next (if_pos ⟨held, other⟩)⟩
  · exact congrArg Host.Outcome.next (if_pos (by simp [running]))
  · exact congrArg Host.Outcome.next (if_neg (by simp [held]))

/-! ### RESTART (R184, R198) -/

theorem getQuantity_restart (s : State) (p : Phase) (q : Option Nat) : s.enterRestart.getQuantity p q = ⟨0, 0, false⟩ := by
  have cleared : s.enterRestart.alarms[phaseIx p] = ⟨s.table.orders.map fun _ => resetQuantity, resetQuantity⟩ := by
    simp [State.enterRestart]
  rw [State.getQuantity, cleared]
  cases q with
  | none => rfl
  | some i =>
    rw [PhaseAlarms.get, List.getElem?_map]
    cases s.table.orders[i]? <;> rfl

/-- A RESTART keeps the settings, of a state that lines and counters have changed since too. -/
theorem enterRestart_settings {s t : State} (h : onlyLines s t) : t.enterRestart = { State.reset with
      resetCause := .restart
      link := s.link
      map := s.map
      setA := s.setA
      setB := s.setB
      phases := s.phases
      table := s.table
      cap := { resetCapture with mode := s.cap.mode, preCount := s.cap.preCount, mask := s.cap.mask }
      portS := { resetPort with line := t.enterRestart.portS.line }
      portF := { resetPort with line := t.enterRestart.portF.line }
      sources := s.sources.map fun x => ⟨x.addr, .new, none, 0, 0, none, 0⟩
      stages := t.enterRestart.stages
      alarms := t.enterRestart.alarms
      fresh := t.enterRestart.fresh
      pending := s.pending } := by
  obtain ⟨_, _, _, _, _, rfl⟩ := onlyLines_iff.1 h
  rfl

theorem enterRestart_stage {s t : State} (h : onlyLines s t) (k : StageIx) : t.enterRestart.stage k =
    if (s.stage k).cfg.enabled then { resetStage with
      cfg := (s.stage k).cfg, state := .openCooling, awaiting := true, cooling := (s.stage k).cfg.cooldown * 1000 }
    else { resetStage with cfg := (s.stage k).cfg } := by
  obtain ⟨_, _, _, _, _, rfl⟩ := onlyLines_iff.1 h
  exact State.stage_map (f := restartStage) rfl k

theorem yardBusy_iff {s : State} : s.yardBusy = true ↔ s.queue ≠ [] ∨ ∃ k, (s.stage k).inFlight ≠ none := by
  constructor
  · intro busy
    by_contra idle
    obtain ⟨hq, hf⟩ := not_or.1 idle
    have none : allStages.filter (fun k => (s.inFlightOf k).isSome) = [] :=
      List.filter_eq_nil_iff.2 fun k _ => by simpa [State.inFlightOf] using not_exists.1 hf k
    simp [State.yardBusy, State.flights, none, not_not.1 hq] at busy
  · intro busy
    by_contra idle
    obtain ⟨hq, hf⟩ := State.yardBusy_false (by simpa using idle)
    exact busy.elim (· hq) fun ⟨k, hk⟩ => hk (hf k)

/-- The RESTART request of a busy part. -/
theorem restartRequest_refuses {s : State} (busy : s.yardBusy = true ∨ s.restartPending = true) (rq : Requester) :
    s.restartRequest rq = s.reply rq 0x44 false (refused .busy) := if_pos (by simpa using busy)

theorem restartRequest_waits {s : State} (idle : s.yardBusy = false) (hp : s.restartPending = false) (room : s.upRoom = true)
    (rq : Requester) : s.restartRequest rq = State.reply { s with restartPending := true } rq 0x44 true (doneWith []) :=
  (if_neg (by simp [idle, hp])).trans (if_pos room)

/-- Without room for its reply the RESTART takes effect at once. -/
theorem restartRequest_restarts {s : State} (idle : s.yardBusy = false) (hp : s.restartPending = false) (full : s.upRoom = false)
    (rq : Requester) : s.restartRequest rq
      = (State.reply { s with restartPending := true } rq 0x44 true (doneWith [])).enterRestart :=
  (if_neg (by simp [idle, hp])).trans (if_neg (by simp [full]))

theorem exec_restart {s : State} (h : s.executes) (rq : Requester) : exec (.restart rq) s = .next (s.restartRequest rq) :=
  congrArg Host.Outcome.next (if_neg (by simp [h.1, h.2]))

/-- The RESTART reply is on the line. -/
theorem restartSending_of {s : State} {f : InsertFrame} {n : Nat} (hp : s.restartPending = true) (ht : s.portS.tx = .insert f n)
    (hk : f.kind = .reply true) : s.restartSending = true := by
  rw [State.restartSending, hp, ht]
  simp [hk]

/-- Settles O58. -/
theorem restartKeepsSettings : Obligations.RestartKeepsSettings := by
  have restarted {s t : State} (h : onlyLines s t) :=
    And.intro (enterRestart_settings h) (And.intro (getQuantity_restart t) (enterRestart_stage h))
  have finished (s : State) : onlyLines s (s.modPort .S PortState.finish) := modPort_lines ..
  refine ⟨fun s rq h => ⟨fun busy => ?_, fun hq hf hp => ?_⟩, fun s f n hh hp ht hk => ?_,
    fun s f n hh up hp ht hk => ?_, fun s hh up hp => ?_, fun s still => ?_⟩
  · rw [exec_restart h, restartRequest_refuses (by rw [yardBusy_iff, or_assoc]; exact busy)]
  · have idle : s.yardBusy = false := by
      rw [Bool.eq_false_iff, Ne, yardBusy_iff]
      simp [hq, hf]
    rw [exec_restart h]
    refine ⟨fun up room => ?_, fun full => ?_⟩
    · rw [restartRequest_waits idle hp ((State.upRoom_iff s).2 ⟨up, room⟩)]
    · rw [restartRequest_restarts idle hp (State.upRoom_eq_false full)]
      exact ⟨_, rfl, restarted (s := { s with restartPending := true }) (enterUp_lines ..)⟩
  · have effect : s.restartEffect = _ := if_pos (restartSending_of hp ht hk)
    exact ⟨_, congrArg Host.Outcome.next ((State.live_of_running hh _).trans effect), restarted (finished s)⟩
  · have ends : s.boundary .S = (s.modPort .S PortState.finish).enterRestart := by
      rw [State.boundary, if_neg (by simp [State.port, PortState.outrun, ht])]
      exact if_pos (by simp [restartSending_of hp ht hk])
    exact ⟨_, congrArg Host.Outcome.next ((State.onLine_of_up (p := .S) hh up _).trans ends), restarted (finished s)⟩
  · have lost := (loseInput_lines s .S).trans (stopOutput_lines (s.loseInput .S) .S)
    have ends : s.linkDown .S = ((s.loseInput .S).stopOutput .S).enterRestart := by
      obtain ⟨_, _, _, _, _, e⟩ := onlyLines_iff.1 lost
      exact if_pos (by rw [e]; exact hp)
    exact ⟨_, congrArg Host.Outcome.next ((State.onLine_of_up (p := .S) hh up _).trans ends), restarted lost⟩
  · show Host.Outcome.next (s.live State.restartEffect) = _
    rcases still with held | idle
    · rw [State.live_of_held held]
    · unfold State.live
      split
      · rfl
      · rw [State.restartEffect, if_neg (by simp [State.restartSending, idle])]

end Sys2Proof.Machine
end

section
/-! YARD ALARM, the time base with its clock, and the watchdog. -/

namespace Sys2Proof.Machine

/-! ### YARD ALARM (R186) -/

theorem any_zip_iff {n : Nat} (v w : Vector Bool n) :
    (v.toList.zip w.toList).any (fun x => x.1 && !x.2) = true ↔ ∃ i : Fin n, v[i] = true ∧ w[i] = false := by
  rw [List.any_eq_true]
  constructor
  · rintro ⟨x, hx, h⟩
    obtain ⟨i, hi, rfl⟩ := List.mem_iff_getElem.1 hx
    have hn : i < n := by simp at hi; omega
    exact ⟨⟨i, hn⟩, by simpa using h⟩
  · rintro ⟨i, h⟩
    exact ⟨(v[i], w[i]), List.mem_iff_getElem.2 ⟨i, by simp, by simp⟩, by simpa using h⟩

theorem anyBusAlarm_iff {s : State} : s.anyBusAlarm = true
    ↔ s.thdAlarm = true ∨ ∃ i, i < s.table.orders.length ∧ s.orderAlarm i = true := by
  simp [State.anyBusAlarm, or_comm]

theorem fullNode_eq_false {s : State} : s.fullNode = false ↔ s.addr = 0 ∨ s.addr = 255 := by
  simp [State.fullNode, ← or_iff_not_imp_left]

/-- Settles O59. -/
theorem yardAlarmFollowsClasses : Obligations.YardAlarmFollowsClasses := by
  intro s
  refine ⟨fun held => by simp [yardAlarm, held], fun running => ?_, ?_, ?_, ?_, ?_, ?_, ?_, ?_, ?_, ?_⟩
  · rw [yardAlarm, running, Bool.false_or, any_zip_iff]
  · simp [State.alarmClasses, mem_allStages]
  · simp [State.alarmClasses, mem_allStages]
  · simp [State.alarmClasses, mem_allStages]
  · show (s.anyBusAlarm || allStages.any fun k => (s.stage k).overload) = true ↔ _
    rw [Bool.or_eq_true, anyBusAlarm_iff, or_assoc]
    simp [mem_allStages]
  · simp [State.alarmClasses]
  · simp [State.alarmClasses]
  · simp [State.alarmClasses, State.clockFallback]
  · simp [State.alarmClasses]
  · show (!s.fullNode) = true ↔ _
    rw [Bool.not_eq_true', fullNode_eq_false]

/-! ### The time base, the clock and the watchdog (R78, R180 to R182) -/

theorem coolStage_eq (a : Stage) : coolStage a = { a with
    cooling := if a.cfg.enabled = true ∧ a.awaiting = false then a.cooling - 1 else a.cooling } := by
  unfold coolStage
  simp only [Bool.and_eq_true, Bool.not_eq_true']
  split <;> rfl

/-! ### Between SERVICE and FALLBACK (R103, R179) -/

/-- Removing several entries takes out every entry of their stages. -/
theorem dropEntries_queue (r : DropReason) (l : List QueueEntry) : ∀ s : State,
    (l.foldl (fun s e => s.dropEntry e r) s).queue = s.queue.filter fun x => l.all fun e => decide (x.stage ≠ e.stage) := by
  induction l with
  | nil => intro s; simp
  | cons e l ih =>
    intro s
    rw [List.foldl_cons, ih, dropEntry_queue, List.filter_filter]
    simp only [List.all_cons, Bool.and_comm]

/-- `t` is `s` but for its queue, and notices sent. -/
def onlyDropped (s t : State) : Prop := onlyNoticed { s with queue := t.queue } t

theorem onlyDropped_trans {s t u : State} (h : onlyDropped s t) (g : onlyDropped t u) : onlyDropped s u := by
  obtain ⟨_, _, _, e⟩ := onlyNoticed_iff.1 h
  obtain ⟨_, _, _, e'⟩ := onlyNoticed_iff.1 g
  exact onlyNoticed_iff.2 ⟨_, _, _, by rw [e', e]⟩

theorem dropEntry_dropped (s : State) (e : QueueEntry) (r : DropReason) : onlyDropped s (s.dropEntry e r) := by
  rw [onlyDropped, dropEntry_queue]
  exact dropEntry_only s e r

theorem dropManual_dropped (s : State) : onlyDropped s s.dropManual :=
  foldl_frame (P := onlyDropped) onlyNoticed_refl onlyDropped_trans (fun s e => dropEntry_dropped s e .fallback) _ s

/-- The change between SERVICE and FALLBACK before its selection. -/
def State.forced (s : State) (m : Mode) (byWatchdog : Bool) : State :=
  let s1 := State.notice { s with mode := m } (.mode s.mode m byWatchdog)
  let s2 := if m = .fallback then s1.dropManual else s1
  s2.modVc (restartHold s2.forceSet.settleHold)

theorem changeForce_eq (s : State) (m : Mode) (b : Bool) : s.changeForce m b = (s.forced m b).selection := rfl

/-- The queue without its MANUAL entries. -/
theorem dropManual_queue {s : State} (h : s.queue.Pairwise fun a b => a.stage ≠ b.stage) :
    s.dropManual.queue = s.queue.filter fun e => e.origin != .manual := by
  rw [State.dropManual, dropEntries_queue]
  refine List.filter_congr fun x hx => ?_
  rw [Bool.eq_iff_iff, List.all_eq_true]
  constructor
  · intro apart
    rw [bne_iff_ne]
    intro manual
    simpa using apart x (List.mem_filter.2 ⟨hx, by simp [manual]⟩)
  · intro other e he
    obtain ⟨he, manual⟩ := List.mem_filter.1 he
    rw [decide_eq_true_eq]
    have symm : Std.Symm fun a b : QueueEntry => a.stage ≠ b.stage := ⟨fun _ _ => Ne.symm⟩
    refine h.forall hx he fun same => ?_
    subst same
    simp_all

/-- The change between SERVICE and FALLBACK, but for its queue. -/
theorem forced_only (s : State) (m : Mode) (b : Bool) : onlyNoticed { s with
    mode := m, queue := (s.forced m b).queue
    vc := { s.vc with acc := 0, withheld := .clear, hold := if m = .fallback then s.setB.settleHold else s.setA.settleHold } }
    (s.forced m b) := by
  have moded : onlyDropped { s with mode := m } (if m = .fallback then
      (State.notice { s with mode := m } (.mode s.mode m b)).dropManual else State.notice { s with mode := m } (.mode s.mode m b)) := by
    have noted : onlyDropped { s with mode := m } (State.notice { s with mode := m } (.mode s.mode m b)) := by
      rw [onlyDropped, notice_queue]
      exact notice_only ..
    split
    · exact onlyDropped_trans noted (dropManual_dropped _)
    · exact noted
  obtain ⟨ins, seq, n, e⟩ := onlyNoticed_iff.1 moded
  unfold State.forced
  dsimp only
  generalize (if m = .fallback then
      (State.notice { s with mode := m } (.mode s.mode m b)).dropManual else State.notice { s with mode := m } (.mode s.mode m b)) = u at e ⊢
  rw [e]
  cases m <;> rfl

theorem forced_queue_service (s : State) (b : Bool) : (s.forced .service b).queue = s.queue := notice_queue ..

theorem dropManual_origin {s : State} {e : QueueEntry} (h : e ∈ s.dropManual.queue) : e.origin ≠ .manual := by
  rw [State.dropManual, dropEntries_queue, List.mem_filter] at h
  intro manual
  have := List.all_eq_true.1 h.2 e (List.mem_filter.2 ⟨h.1, by simp [manual]⟩)
  simp at this

theorem forced_queue_fallback (s : State) (b : Bool) :
    (s.forced .fallback b).queue = (State.notice { s with mode := .fallback } (.mode s.mode .fallback b)).dropManual.queue := rfl

theorem watchdogExpiry_early {s : State} (h : ∀ c, s.watchdog = .running c → (s.now - c).toNat < s.link.watchdog * 1000) :
    s.watchdogExpiry = s := by
  unfold State.watchdogExpiry
  split
  · next c hc => exact if_neg (not_le.2 (h c hc))
  · rfl
  · rfl

theorem watchdogExpiry_due {s : State} {c : PartTime} (hc : s.watchdog = .running c)
    (due : s.link.watchdog * 1000 ≤ (s.now - c).toNat) : s.watchdogExpiry =
      if s.mode = .service then (State.forced { s with watchdog := .expired } .fallback true).selection
      else { s with watchdog := .expired } := by
  rw [State.watchdogExpiry, hc]
  exact if_pos due

/-- Settles O56. -/
theorem timeBaseClockAndWatchdog : Obligations.TimeBaseClockAndWatchdog := by
  intro s hh
  have event (f : State → State) : (Host.Outcome.next (s.live f) : Host.Outcome State Fault Refusal) = .next (f s) :=
    congrArg Host.Outcome.next (State.live_of_running hh f)
  refine ⟨⟨s.tick, event _, rfl, fun ref => ?_, fun int => ?_, fun k => ?_⟩, fun ref => ⟨?_, ?_, ?_⟩, fun int => ⟨?_, ?_, ?_, ?_⟩,
    fun early => ?_, fun c hc due => ⟨fun hm => ?_, fun hm => ?_⟩⟩
  · show (phaseTick s.clock s.tickPhase).1 = _ ∧ (if s.clock = .internal then _ else _) = _
    rw [ref]
    exact ⟨rfl, rfl⟩
  · show (phaseTick s.clock s.tickPhase).1 = _ ∧ (if s.clock = .internal then _ else _) = _
    rw [int]
    refine ⟨?_, rfl⟩
    simp only [phaseTick, Nat.add_lt_add_iff_right (k := 1) (m := 15)]
    split <;> rfl
  · rw [State.tick, coolTick_stage, coolStage_eq]
    show (if (phaseTick s.clock s.tickPhase).2 = true then s.stage k else _) = _
    cases hc : s.clock with
    | reference => simp only [phaseTick, Bool.false_eq_true, if_false, true_or, and_true]; rfl
    | internal =>
      by_cases late : s.tickPhase < 15
      · simp only [phaseTick, late, show s.tickPhase + 1 < 16 by omega, if_true, Bool.false_eq_true, if_false, or_true, and_true]
        rfl
      · simp [phaseTick, late, show ¬ s.tickPhase + 1 < 16 by omega]
  · exact (event State.referenceReturn).trans (congrArg Host.Outcome.next (if_neg (by simp [ref])))
  · exact (event State.referenceGap).trans (congrArg Host.Outcome.next (if_neg (by simp [ref])))
  · exact (event State.referenceLoss).trans (congrArg Host.Outcome.next (if_pos ref))
  · exact (event State.referenceLoss).trans (congrArg Host.Outcome.next (if_neg (by simp [int])))
  · exact (event State.referenceGap).trans (congrArg Host.Outcome.next (if_pos int))
  · exact fun early => (event State.referenceReturn).trans (congrArg Host.Outcome.next (if_neg fun h => by omega))
  · exact fun due => (event State.referenceReturn).trans (congrArg Host.Outcome.next (if_pos ⟨int, due⟩))
  · exact (event State.watchdogExpiry).trans (congrArg Host.Outcome.next (watchdogExpiry_early early))
  · exact (event State.watchdogExpiry).trans (congrArg Host.Outcome.next ((watchdogExpiry_due hc due).trans (if_neg hm)))
  · refine ⟨_, (event State.watchdogExpiry).trans (congrArg Host.Outcome.next ((watchdogExpiry_due hc due).trans (if_pos hm))), ?_⟩
    have manual (x : QueueEntry) (hx : x ∈ (State.forced { s with watchdog := .expired } .fallback true).selection.queue) :
        x.origin ≠ .manual := by
      have kept := (select_sublist _ _).subset hx
      rw [forced_queue_fallback] at kept
      exact dropManual_origin kept
    have only := onlySwitched_trans (onlySwitched_of_noticed (forced_only { s with watchdog := .expired } .fallback true))
      (selection_switched _)
    refine ⟨by rw [only], by rw [only], ?_, by rw [only]; rfl, manual⟩
    obtain ⟨_, _, _, _, _, _, _, _, _, _, e⟩ := onlySwitched_iff.1 only
    rw [e]
    rfl

end Sys2Proof.Machine
end

section
/-! The part modes: ENTER SERVICE, ENTER CONFIG, FORCE FALLBACK and RESUME. -/

namespace Sys2Proof.Machine

/-! ### The lowest failing stage (R177, R178) -/

theorem find?_allStages {P : StageIx → Bool} {k : StageIx} (hk : P k = true) (lower : ∀ j, j < k → P j = false) :
    allStages.find? P = some k := by
  refine List.find?_eq_some_iff_getElem.2 ⟨hk, k.val, by simp [allStages], by simp [allStages], fun j hj => ?_⟩
  simpa [allStages] using lower ⟨j, by omega⟩ hj

theorem badStage_lowest {s : State} {ok : Option Position → Bool} {k : StageIx} (enabled : (s.stage k).cfg.enabled = true)
    (bad : ok (s.stage k).reported = false) (lower : ∀ j, j < k → (s.stage j).cfg.enabled = true → ok (s.stage j).reported = true) :
    s.badStage ok = some k := by
  refine find?_allStages (by simp [enabled, bad]) fun j hj => ?_
  have := lower j hj
  cases he : (s.stage j).cfg.enabled <;> simp_all

theorem badStage_none {s : State} {ok : Option Position → Bool} (h : ∀ k, (s.stage k).cfg.enabled = true → ok (s.stage k).reported = true) :
    s.badStage ok = none := by
  refine List.find?_eq_none.2 fun k _ => ?_
  have := h k
  cases he : (s.stage k).cfg.enabled <;> simp_all

/-! ### All stages in order -/

/-- One change of each record in index order, with its notices. -/
theorem foldl_records {f : StageIx → State → State} {g : Stage → Stage} (h : ∀ s k, Records s k (g (s.stage k)) (f k s))
    (l : List StageIx) (nodup : l.Nodup) : ∀ s : State,
    let t := l.foldl (fun s k => f k s) s
    onlyNoticed { s with stages := t.stages } t ∧ ∀ k, t.stage k = if k ∈ l then g (s.stage k) else s.stage k := by
  induction l with
  | nil => exact fun s => ⟨onlyNoticed_refl s, fun k => by simp⟩
  | cons j l ih =>
    intro s
    obtain ⟨fresh, nodup⟩ := List.nodup_cons.1 nodup
    obtain ⟨only, stage⟩ := ih nodup (f j s)
    refine ⟨?_, fun k => ?_⟩
    · obtain ⟨_, _, _, e⟩ := onlyNoticed_iff.1 only
      obtain ⟨_, _, _, e'⟩ := onlyNoticed_iff.1 (h s j).only
      exact onlyNoticed_iff.2 ⟨_, _, _, by rw [List.foldl_cons, e, e']⟩
    · rw [List.foldl_cons, stage]
      by_cases hk : k = j
      · subst hk
        rw [if_neg fresh, (h s k).own, if_pos List.mem_cons_self]
      · rw [(h s j).other hk]
        simp [hk]

theorem forStages_records {f : StageIx → State → State} {g : Stage → Stage} (h : ∀ s k, Records s k (g (s.stage k)) (f k s)) (s : State) :
    onlyNoticed { s with stages := (s.forStages f).stages } (s.forStages f) ∧ ∀ k, (s.forStages f).stage k = g (s.stage k) := by
  obtain ⟨only, stage⟩ := foldl_records h allStages allStages_nodup s
  exact ⟨only, fun k => (stage k).trans (if_pos (mem_allStages k))⟩

/-! ### The part modes (R84, R103, R109, R145, R161, R174, R177 to R179) -/

theorem selection_of_empty {s : State} (h : s.queue = []) : s.selection = s := by
  by_cases go : Selects s
  · refine selection_done go (by simp [State.protectEntry, h]) ?_
    rw [h]
    rfl
  · exact selection_stops go

theorem serviceCooldown_records (s : State) (k : StageIx) :
    Records s k (if (s.stage k).cfg.enabled = true ∧ (s.stage k).reported = some .open then serviceStage (s.stage k) else s.stage k)
      (State.serviceCooldown k s) := by
  unfold State.serviceCooldown
  simp only [Bool.and_eq_true, beq_iff_eq]
  split
  · exact changeStage_records s k serviceStage
  · exact .refl rfl

/-- What ENTER SERVICE leaves of a record. -/
def Stage.inService (a : Stage) : Stage :=
  if a.cfg.enabled = true ∧ a.reported = some .open then { a with
    cooling := a.cfg.cooldown * 1000
    state := if a.state = .openReady then .openCooling else a.state
    unb := resetUnbalance, overCount := 0 }
  else { a with unb := resetUnbalance, overCount := 0 }

/-- ENTER SERVICE with an empty queue: the elements and voltage control started, the records of stages reported OPEN with their
cooldown, and its notices. -/
theorem applyEnterService_only {s : State} (hq : s.queue = []) : onlyNoticed { s with
      mode := .service, vc := { resetVoltage with ctl := .active, hold := s.setA.settleHold }
      evals := Vector.replicate 52 (startedEval s.now), stages := s.applyEnterService.stages
      alarms := s.alarms.map startPhase } s.applyEnterService
    ∧ ∀ k, s.applyEnterService.stage k = (s.stage k).inService := by
  obtain ⟨only, stage⟩ := forStages_records (f := State.serviceCooldown)
    (g := fun a => if a.cfg.enabled = true ∧ a.reported = some .open then serviceStage a else a)
    serviceCooldown_records { s with mode := .service }
  obtain ⟨ins, seq, n, e⟩ := onlyNoticed_iff.1 only
  unfold State.applyEnterService
  dsimp only
  generalize State.forStages { s with mode := .service } State.serviceCooldown = u at e stage ⊢
  rw [selection_of_empty (s := u.startElements) (by rw [show u.startElements.queue = u.queue from rfl, e]; exact hq)]
  refine ⟨?_, fun k => ?_⟩
  · have stages (x : State) (m : Notice) : (x.notice m).stages = x.stages := by rw [notice_only x m]
    rw [stages]
    refine onlyNoticed_trans ?_ (notice_only ..)
    rw [e]
    rfl
  · rw [notice_stage, State.stage_map (s := u) (f := startStage) rfl, stage k]
    unfold Stage.inService
    show startStage (if (s.stage k).cfg.enabled = true ∧ (s.stage k).reported = some .open then _ else _) = _
    split <;> rfl

theorem doEnterService_refuses {s : State} {a : Answer} (hc : s.enterServiceCheck = some a) : s.doEnterService = (s, a) := by
  rw [State.doEnterService, hc]

theorem doEnterService_applies {s : State} (hc : s.enterServiceCheck = none) :
    s.doEnterService = (s.applyEnterService, doneWith []) := by
  rw [State.doEnterService, hc]

theorem doEnterConfig_refuses {s : State} {a : Answer} (hc : s.enterConfigCheck = some a) : s.doEnterConfig = (s, a) := by
  rw [State.doEnterConfig, hc]

theorem doEnterConfig_applies {s : State} (hc : s.enterConfigCheck = none) :
    s.doEnterConfig = (s.applyEnterConfig, doneWith []) := by
  rw [State.doEnterConfig, hc]

theorem mapped_iff {m : List MapEntry} {r : Role} : mapped m r = true ↔ entriesOf m r ≠ [] := by
  unfold mapped primaryOf
  cases entriesOf m r <;> simp

theorem doForceFallback_eq {s : State} (hm : s.mode = .service) :
    s.doForceFallback = ((s.forced .fallback false).selection, doneWith []) := by rw [State.doForceFallback, hm]; rfl

theorem doResume_eq {s : State} (hm : s.mode = .fallback) :
    s.doResume = ((s.forced .service false).selection, doneWith []) := by rw [State.doResume, hm]; rfl

/-- Settles O55. -/
theorem partModeRequests : Obligations.PartModeRequests := by
  intro s rq h lowest settled busy
  have yard : s.yardBusy = true ↔ busy := yardBusy_iff
  have ends (p : Option Position) : (p == some .open || p == some .closed) = true ↔ settled p := by simp [settled]
  have ended (p : Option Position) : (p == some .open || p == some .closed) = false ↔ ¬ settled p := by simp [settled]
  refine ⟨fun hm => request_answers h rq _ ?_, fun hm => ?_,
    fun hm => request_answers h rq _ ?_, fun hm => ⟨fun hb => request_answers h rq _ ?_, fun idle => ?_⟩,
    fun hm => ⟨request_answers h rq _ ?_, request_answers h rq _ ?_⟩, fun hm => ⟨request_answers h rq _ ?_, ?_⟩,
    fun hm => ⟨request_answers h rq _ ?_, ?_⟩⟩
  · exact doEnterService_refuses (if_pos ((State.running_iff s).2 hm))
  · have still : ¬ s.running = true := mt (State.running_iff s).1 (not_not.2 hm)
    refine ⟨fun unmapped => request_answers h rq _ (doEnterService_refuses ?_), fun hmap => ?_⟩
    · exact (if_neg still).trans (if_pos (by rw [Bool.not_eq_true', Bool.eq_false_iff, Ne, mapped_iff, not_not]; exact unmapped))
    · have check : s.enterServiceCheck
          = (s.badStage fun p => p == some .open || p == some .closed).map fun k => refusedAt .state (BitVec.ofNat 8 k.val) :=
        (if_neg still).trans (if_neg (by simp [mapped_iff.2 hmap]))
      refine ⟨fun k ⟨enabled, bad, lower⟩ => request_answers h rq _ (doEnterService_refuses ?_), fun ready hq => ?_⟩
      · rw [check, badStage_lowest enabled ((ended _).2 bad) fun j hj he => (ends _).2 (lower j hj he)]
        rfl
      · have applies := doEnterService_applies (s := s) (by rw [check, badStage_none fun k he => (ends _).2 (ready k he)]; rfl)
        obtain ⟨only, stage⟩ := applyEnterService_only hq
        have mode : s.applyEnterService.mode = .service := by rw [only]
        have vc : s.applyEnterService.vc = { resetVoltage with ctl := .active, hold := s.setA.settleHold } := by rw [only]
        have evals : s.applyEnterService.evals = Vector.replicate 52 (startedEval s.now) := by rw [only]
        have alarms : s.applyEnterService.alarms = s.alarms.map startPhase := by rw [only]
        refine ⟨_, request_answers h rq _ applies, mode, ?_, vc, fun el => ?_, alarms, fun k => ?_⟩
        · rw [mode, vc, evals, alarms]
          exact only
        · show s.applyEnterService.evals[elementIx el] = _
          simp [evals, startedEval]
        · rw [stage k]
          unfold Stage.inService
          split <;> rfl
  · exact doEnterConfig_refuses (if_pos hm)
  · exact doEnterConfig_refuses ((if_neg hm).trans (if_pos (yard.2 hb)))
  · have check : s.enterConfigCheck = (s.badStage fun p => p == some .open).map fun k => refusedAt .state (BitVec.ofNat 8 k.val) :=
      (if_neg hm).trans (if_neg (mt yard.1 idle))
    refine ⟨fun k ⟨enabled, bad, lower⟩ => request_answers h rq _ (doEnterConfig_refuses ?_), fun ready => ?_⟩
    · rw [check, badStage_lowest enabled (by simpa using bad) fun j hj he => by simpa using lower j hj he]
      rfl
    · have applies := doEnterConfig_applies (s := s) (by rw [check, badStage_none fun k he => by simpa using ready k he]; rfl)
      have only : onlyNoticed { s with mode := .config, vc := { s.vc with ctl := .stopped }, cap := configCapture s.cap }
        s.applyEnterConfig := notice_only ..
      refine ⟨_, request_answers h rq _ applies, by rw [only], by rw [only], ?_, fun hc => ?_, fun hc => ?_⟩
      · obtain ⟨ins, seq, n, e⟩ := onlyNoticed_iff.1 only
        rw [e]
        rfl
      · rw [only]
        show configCapture s.cap = _
        unfold configCapture
        split <;> simp_all
      · rw [only]
        show configCapture s.cap = _
        unfold configCapture
        rcases hc with hc | hc <;> rw [hc]
  · rw [State.doForceFallback, hm]
  · rw [State.doResume, hm]
  · rw [State.doResume, hm]
  · have only := forced_only s .fallback false
    refine ⟨s.forced .fallback false, request_answers h rq _ (doForceFallback_eq hm), by rw [only], by rw [only]; rfl, ?_, fun distinct => ?_⟩
    · obtain ⟨ins, seq, n, e⟩ := onlyNoticed_iff.1 only
      rw [e]
      rfl
    · rw [forced_queue_fallback, dropManual_queue (by rw [notice_queue]; exact distinct), notice_queue]
  · rw [State.doForceFallback, hm]
  · have only := forced_only s .service false
    refine ⟨s.forced .service false, request_answers h rq _ (doResume_eq hm), by rw [only], by rw [only]; rfl, ?_⟩
    rw [forced_queue_service] at only
    obtain ⟨ins, seq, n, e⟩ := onlyNoticed_iff.1 only
    rw [e]
    rfl

end Sys2Proof.Machine
end

section
/-! The requests that read the part: READ STATUS, READ COUNTERS, READ STAGE, READ MAP; CLEAR COUNTERS. -/

namespace Sys2Proof.Machine

/-! ### Lengths of what is sent (R187, R191 to R195) -/

/-- A list field is its count byte and its entries, each of `n` bytes. -/
theorem encList_length {n : Nat} {es : List (List Byte)} (h : ∀ e ∈ es, e.length = n) : (encList es).length = 1 + n * es.length := by
  have flat : es.flatten.length = n * es.length := by
    induction es with
    | nil => rfl
    | cons e es ih =>
      have := ih fun x hx => h x (List.mem_cons_of_mem _ hx)
      have := h e List.mem_cons_self
      rw [List.flatten_cons, List.length_append, List.length_cons]
      grind
  rw [encList, List.length_append, be_length, flat]

theorem encList_map {α : Type} (f : α → List Byte) (l : List α) :
    encList (l.map f) = BitVec.ofNat 8 l.length :: l.flatMap f := by
  rw [encList, List.length_map, ← List.flatMap_def]
  rfl

theorem encFlags_length {n : Nat} (v : Vector Bool n) : (v.toList.flatMap encFlag).length = n := by
  rw [List.length_flatMap]
  simp

theorem encSource_length (x : Source) : (encSource x).length = 6 := by simp [encSource]

theorem statusPart_length (s : State) : s.statusPart.length = 45 + 6 * s.sources.length := by
  have sources := encList_length (n := 6) (es := s.sources.map encSource) (by simp [encSource_length])
  rw [List.length_map] at sources
  simp only [State.statusPart, List.length_append, sources, encFlags_length, be_length, encFlag_length, optBe_length,
    encWindow_length, List.length_cons, List.length_nil]
  omega

theorem statusControl_length (s : State) : s.statusControl.length = 26 := by
  have vc : (encOpt 4 (s.vc.lastVc.map fun x => be 2 x.1 ++ be 2 x.2.toNat)).length = 5 := by
    cases s.vc.lastVc <;> simp [encOpt]
  simp [State.statusControl, vc, encPhases]

theorem encOrder_length (o : Option Nat) : (encOrder o).length = 1 := by cases o <;> rfl

theorem statusHarmonic_length (s : State) : s.statusHarmonic.length = 18 + 17 * s.table.orders.length := by
  have entry (q : Option Nat) : (s.quantityEntry q).length = 17 := by
    simp [State.quantityEntry, encQuantity, encOrder_length]
  rw [State.statusHarmonic, encList_length (n := 17) fun e he => by obtain ⟨q, -, rfl⟩ := List.mem_map.1 he; exact entry q]
  simp
  omega

theorem stageSummary_length (s : State) (k : StageIx) : (s.stageSummary k).length = 39 := by
  have unbalance (o : Option LastU) : (encOpt 4 (o.map fun u => be 2 u.pm ++ be 2 u.w.toNat)).length = 5 := by
    cases o <;> simp [encOpt]
  unfold State.stageSummary
  simp only [List.length_append, unbalance, be_length, encFlag_length, optBe_length, encPosition_length]

theorem encEntry_eq (m : List MapEntry) (i : Nat) (e : MapEntry) : encEntry m i e = [e.source, BitVec.ofNat 8 e.slot.val,
    (match e.role with | none => 255 | some r => BitVec.ofNat 8 (roleCode r)),
    e.gain.extractLsb' 8 8, e.gain.extractLsb' 0 8, (if e.capture then 1 else 0),
    (match e.role with | none => 2 | some r => if entriesOf (m.take i) r = [] then 0 else 1)] := by
  have mark : be 1 (markOf m i e) = [match e.role with | none => 2 | some r => if entriesOf (m.take i) r = [] then 0 else 1] := by
    unfold markOf
    cases e.role with
    | none => rfl
    | some r =>
      dsimp only
      cases entriesOf (m.take i) r <;> rfl
  have role : be 1 ((e.role.map roleCode).getD 255)
      = [match e.role with | none => 255 | some r => BitVec.ofNat 8 (roleCode r)] := by
    cases e.role <;> rfl
  rw [encEntry, mark, role, be_two_word]
  rfl

/-- Settles O60. -/
theorem statusAndCountersAnswer : Obligations.StatusAndCountersAnswer := by
  refine ⟨fun s rq h => ⟨request_answers h rq _ rfl, fun _ => statusPart_length s, request_answers h rq _ rfl, statusControl_length s,
    request_answers h rq _ rfl, statusHarmonic_length s, request_answers h rq _ rfl, request_answers h rq _ ?_, rfl,
    s.clearCounters, request_answers h rq _ rfl, rfl, ?_⟩, fun s rq b h => ⟨fun large => ⟨request_answers h rq _ ?_, request_answers h rq _ ?_⟩,
      fun k hb => ⟨request_answers h rq _ ?_, s.statusStages k, request_answers h rq _ ?_, ?_, ?_⟩,
      fun far => request_answers h rq _ ?_, fun near => ⟨_, request_answers h rq _ (if_neg (not_lt.2 near)), ?_, ?_⟩⟩, encEntry_eq⟩
  · rw [State.doReadCounters, linkCode, linkCode]
    cases s.portS.up <;> cases s.portF.up <;> rfl
  · intro n hn
    simpa [State.counters, State.clearCounters, clearedPort] using hn
  · rw [State.doReadStage, stageOfByte_of_large large]
  · rw [State.doStatusStages, stageOfByte_of_large large]
  · rw [State.doReadStage, stageOfByte_of_val hb]
  · rw [State.doStatusStages, stageOfByte_of_val hb]
  · rw [State.statusStages, encList_map]
    simp [allStages]
  · rw [State.statusStages, encList_length (n := 39) fun e he => ?_]
    · simp [allStages]
    · obtain ⟨j, -, rfl⟩ := List.mem_map.1 he
      exact stageSummary_length s j
  · exact if_pos far
  · rw [encEntries, encList_map]
    simp
    rfl
  · rw [List.length_append, encList_length (n := 7) fun e he => ?_]
    · simp [encEntries]
      omega
    · obtain ⟨x, -, rfl⟩ := List.mem_map.1 he
      rw [encEntry_eq]
      rfl

end Sys2Proof.Machine
end

section
/-! CLEAR MAP and APPEND MAP: the entries stored, the refusals, and what capture does at an edit of the map. -/

namespace Sys2Proof.Machine

/-! ### What an edit of the channel list touches (R174) -/

theorem channelsChanged_only (s : State) : onlyNoticed { s with cap := s.channelsChanged.cap } s.channelsChanged := by
  have held (u : State) (b : Bool) : onlyNoticed { u with cap := (u.holdRecord b).cap } (u.holdRecord b) := by
    have only := holdRecord_only u b
    obtain ⟨_, _, _, e⟩ := onlyNoticed_iff.1 only
    rw [e]
    rfl
  unfold State.channelsChanged
  split
  · rfl
  · rfl
  · unfold State.cutRecording
    split
    · rfl
    · exact held s true
  · rfl

/-! ### CLEAR MAP (R22) -/

theorem clearMap_kept {s : State} (h : s.channels = []) : s.clearMap = { s with
    map := [], sources := [], roles := Vector.replicate 51 resetRole, yardIx := none, tracker := s.tracker.discard } := if_pos h

theorem clearMap_edits {s : State} (h : s.channels ≠ []) : s.clearMap = State.channelsChanged { s with
    map := [], sources := [], roles := Vector.replicate 51 resetRole, yardIx := none, tracker := s.tracker.discard } := if_neg h

/-- Settles O24. -/
theorem clearMapEmptiesIntake : Obligations.ClearMapEmptiesIntake := by
  intro s rq h
  refine ⟨fun hm => request_answers h rq _ (if_pos hm), fun hm => ?_⟩
  have applies := request_answers h rq 0x20 (f := State.doClearMap) (if_neg (not_not.2 hm))
  set u : State := { s with
    map := [], sources := [], roles := Vector.replicate 51 resetRole, yardIx := none, tracker := s.tracker.discard } with hu
  have emptied (t : State) (only : onlyNoticed { u with cap := t.cap } t) :
      t.map = [] ∧ t.sources = [] ∧ (∀ r, t.role r = resetRole) ∧ t.yardIx = none ∧ t.tracker.crossings = [] ∧ t.tracker.last = none
        ∧ t.tracker.freq = none ∧ onlyNoticed { s with
            map := t.map, sources := t.sources, roles := t.roles, yardIx := t.yardIx, tracker := t.tracker, cap := t.cap } t := by
    have roles : t.roles = Vector.replicate 51 resetRole := by rw [only]
    have tracker : t.tracker = s.tracker.discard := by rw [only]
    have map : t.map = [] := by rw [only]
    have sources : t.sources = [] := by rw [only]
    have yardIx : t.yardIx = none := by rw [only]
    refine ⟨map, sources, fun r => ?_, yardIx, by rw [tracker]; rfl, by rw [tracker]; rfl, by rw [tracker]; rfl, ?_⟩
    · show t.roles[roleIx r] = _
      simp [roles]
    · rw [roles, tracker, map, sources, yardIx]
      exact only
  by_cases unmapped : s.channels = []
  · rw [clearMap_kept unmapped] at applies
    obtain ⟨a, b, c, d, e, f, g, only⟩ := emptied u (onlyNoticed_refl _)
    refine ⟨u, applies, a, b, c, d, e, f, g, only, fun _ => rfl, fun ⟨e, he, cap, role⟩ => ?_⟩
    exact absurd (channels_eq_nil.1 unmapped e he) (by simp [cap, role])
  · rw [clearMap_edits unmapped] at applies
    obtain ⟨a, b, c, d, e, f, g, only⟩ := emptied _ (channelsChanged_only u)
    exact ⟨_, applies, a, b, c, d, e, f, g, only, fun none => absurd (channels_eq_nil.2 none) unmapped,
      fun _ => channelsChanged_edited u⟩

/-! ### One entry (R23, R25) -/

theorem readEntry_none {w : MapEntryWrite} :
    readEntry w = none ↔ w.source = 0 ∨ w.source = 255 ∨ 16 ≤ w.slot.toNat ∨ roleOfCode w.role = none := by
  unfold readEntry
  by_cases source : w.source = 0 ∨ w.source = 255
  · exact iff_of_true (if_pos source) (source.imp_right .inl)
  · rw [if_neg source, ← or_assoc, or_iff_right source]
    by_cases slot : w.slot.toNat < 16
    · rw [dif_pos slot, or_iff_right (not_le.2 slot), Option.map_eq_none_iff]
    · rw [dif_neg slot]
      exact iff_of_true rfl (.inl (not_lt.1 slot))

theorem readEntry_some {w : MapEntryWrite} {e : MapEntry} (h : readEntry w = some e) : e.source = w.source
    ∧ e.slot.val = w.slot.toNat ∧ roleOfCode w.role = some e.role ∧ e.gain = w.gain ∧ e.capture = w.capture := by
  unfold readEntry at h
  split at h
  · cases h
  · split at h
    · obtain ⟨role, hr, rfl⟩ := Option.map_eq_some_iff.1 h
      exact ⟨rfl, rfl, hr, rfl, rfl⟩
    · cases h

theorem readEntry_of {w : MapEntryWrite} {role : Option Role} (h0 : w.source ≠ 0) (h255 : w.source ≠ 255) (h : w.slot.toNat < 16)
    (hr : roleOfCode w.role = some role) : readEntry w = some ⟨w.source, ⟨w.slot.toNat, h⟩, role, w.gain, w.capture⟩ := by
  rw [readEntry, if_neg (not_or.2 ⟨h0, h255⟩), dif_pos h, hr]
  rfl

/-- The entry repeats a role or a pair of the map. -/
def repeats (m : List MapEntry) (e : MapEntry) : Prop :=
  (∃ r, e.role = some r ∧ 2 ≤ (entriesOf m r).length) ∨ ∃ x ∈ m, x.source = e.source ∧ x.slot = e.slot

theorem entryCheck_repeats {m : List MapEntry} {e : MapEntry} (h : repeats m e) (srcs : List Byte) :
    entryCheck m srcs e = some .duplicate := by
  unfold entryCheck
  by_cases role : (e.role.any fun r => decide (2 ≤ (entriesOf m r).length)) = true
  · rw [if_pos role]
  · rw [if_neg role]
    refine if_pos ?_
    rcases h with ⟨r, hr, two⟩ | pair
    · exact absurd (by simp [hr, two]) role
    · simpa using pair

theorem entryCheck_fresh {m : List MapEntry} {e : MapEntry} (h : ¬ repeats m e) (srcs : List Byte) :
    entryCheck m srcs e = if e.source ∉ srcs ∧ 8 ≤ srcs.length then some .full else none := by
  obtain ⟨role, pair⟩ := not_or.1 h
  unfold entryCheck
  rw [if_neg fun h => role (by simpa [Option.any_eq_true] using h), if_neg fun h => pair (by simpa using h)]

theorem entryCheck_spec (m : List MapEntry) (srcs : List Byte) (e : MapEntry) :
    (entryCheck m srcs e = some .duplicate ↔ repeats m e)
      ∧ (entryCheck m srcs e = some .full ↔ entryCheck m srcs e ≠ some .duplicate ∧ e.source ∉ srcs ∧ 8 ≤ srcs.length)
      ∧ ∀ r, entryCheck m srcs e = some r → r = .duplicate ∨ r = .full := by
  by_cases h : repeats m e
  · simp [entryCheck_repeats h srcs, h]
  · rw [entryCheck_fresh h srcs]
    split
    · next full => simp [h, full]
    · next room => simp [h, room]

/-! ### Several entries in order (R23, R25) -/

/-- What the checks say of one entry of a request. -/
def writeCheck (m : List MapEntry) (srcs : List Byte) (w : MapEntryWrite) : Option Reason :=
  match readEntry w with
  | none => some .index
  | some e => entryCheck m srcs e

theorem appendEntries_refused {m : List MapEntry} {srcs : List Byte} {w : MapEntryWrite} {r : Reason}
    (h : writeCheck m srcs w = some r) (i : Nat) (c : Bool) (ws : List MapEntryWrite) :
    appendEntries i m srcs c (w :: ws) = .refusedAt r i := by
  unfold writeCheck at h
  unfold appendEntries
  cases he : readEntry w with
  | none => rw [he] at h; cases h; rfl
  | some e => rw [he] at h; dsimp only at h ⊢; rw [h]

theorem appendEntries_taken {m : List MapEntry} {srcs : List Byte} {w : MapEntryWrite} {e : MapEntry} (he : readEntry w = some e)
    (h : entryCheck m srcs e = none) (i : Nat) (c : Bool) (ws : List MapEntryWrite) :
    appendEntries i m srcs c (w :: ws) = appendEntries (i + 1) (m ++ [{ e with capture := keptFlag m e }])
      (if e.source ∈ srcs then srcs else srcs ++ [e.source]) (c || (e.capture && !keptFlag m e)) ws := by
  rw [appendEntries, he]
  dsimp only
  rw [h]

/-- An entry of a request is refused, or it is read and joins the map. -/
theorem writeCheck_cases (m : List MapEntry) (srcs : List Byte) (w : MapEntryWrite) :
    (∃ r, writeCheck m srcs w = some r) ∨ ∃ e, readEntry w = some e ∧ entryCheck m srcs e = none := by
  unfold writeCheck
  cases readEntry w with
  | none => exact .inl ⟨_, rfl⟩
  | some e =>
    cases hc : entryCheck m srcs e with
    | none => exact .inr ⟨e, rfl, hc⟩
    | some r => exact .inl ⟨r, hc⟩

theorem appendEntries_append : ∀ (as : List MapEntryWrite) {i : Nat} {m m' : List MapEntry} {srcs srcs' : List Byte} {c c' : Bool}
    (bs : List MapEntryWrite), appendEntries i m srcs c as = .stored m' srcs' c' →
    appendEntries i m srcs c (as ++ bs) = appendEntries (i + as.length) m' srcs' c' bs
  | [], i, m, m', srcs, srcs', c, c', bs, h => by
    rw [appendEntries] at h
    injection h with hm hs hc
    subst hm hs hc
    rfl
  | w :: as, i, m, m', srcs, srcs', c, c', bs, h => by
    rcases writeCheck_cases m srcs w with ⟨r, hr⟩ | ⟨e, he, hc⟩
    · rw [appendEntries_refused hr] at h; cases h
    · rw [appendEntries_taken he hc] at h
      rw [List.cons_append, appendEntries_taken he hc, appendEntries_append as bs h, List.length_cons]
      congr 1
      omega

/-- The entries are stored, or one of them, those before it stored, is refused. -/
theorem appendEntries_outcome (m0 : List MapEntry) (srcs0 : List Byte) (c0 : Bool) (ws : List MapEntryWrite) :
    (∃ m srcs c, appendEntries 0 m0 srcs0 c0 ws = .stored m srcs c)
      ∨ ∃ i w m srcs c r, ws[i]? = some w ∧ appendEntries 0 m0 srcs0 c0 (ws.take i) = .stored m srcs c
        ∧ writeCheck m srcs w = some r := by
  induction ws using List.reverseRecOn with
  | nil => exact .inl ⟨_, _, _, rfl⟩
  | append_singleton ws w ih =>
    rcases ih with ⟨m, srcs, c, h⟩ | ⟨i, x, m, srcs, c, r, hx, h, hr⟩
    · rcases writeCheck_cases m srcs w with ⟨r, hr⟩ | ⟨e, he, hc⟩
      · exact .inr ⟨ws.length, w, m, srcs, c, r, by simp, by simpa using h, hr⟩
      · exact .inl ⟨_, _, _, (appendEntries_append ws _ h).trans ((appendEntries_taken he hc ..).trans rfl)⟩
    · have hi : i < ws.length := (List.getElem?_eq_some_iff.1 hx).1
      exact .inr ⟨i, x, m, srcs, c, r, by rw [List.getElem?_append_left hi, hx], by rw [List.take_append_of_le_length hi.le]; exact h, hr⟩

/-- The refusal of an entry is that of the request. -/
theorem appendEntries_refusedAt {m0 m : List MapEntry} {srcs0 srcs : List Byte} {c0 c : Bool} {ws : List MapEntryWrite} {i : Nat}
    {w : MapEntryWrite} {r : Reason} (hw : ws[i]? = some w) (h : appendEntries 0 m0 srcs0 c0 (ws.take i) = .stored m srcs c)
    (hr : writeCheck m srcs w = some r) : appendEntries 0 m0 srcs0 c0 ws = .refusedAt r i := by
  obtain ⟨hi, rfl⟩ := List.getElem?_eq_some_iff.1 hw
  have split := appendEntries_append (ws.take i) (ws.drop i) h
  rw [List.take_append_drop, List.drop_eq_getElem_cons hi, appendEntries_refused hr, List.length_take, Nat.min_eq_left hi.le,
    Nat.zero_add] at split
  exact split

/-- `e` is what the entry `w` of a request becomes behind the map `m`. -/
structure StoredAs (m : List MapEntry) (w : MapEntryWrite) (e : MapEntry) : Prop where
  source : e.source = w.source
  slot : e.slot.val = w.slot.toNat
  role : roleOfCode w.role = some e.role
  gain : e.gain = w.gain
  capture : e.capture = true ↔ w.capture = true ∧ e.role ≠ none ∧ (m.filter (·.capture)).length < 8

theorem storedAs_of_read {m : List MapEntry} {w : MapEntryWrite} {e : MapEntry} (h : readEntry w = some e) :
    StoredAs m w { e with capture := keptFlag m e } := by
  obtain ⟨source, slot, role, gain, capture⟩ := readEntry_some h
  refine ⟨source, slot, role, gain, ?_⟩
  simp only [keptFlag, Bool.and_eq_true, decide_eq_true_eq, capture, Option.isSome_iff_ne_none, and_assoc]

/-- The entries a request adds to the map, one for each of its own. -/
theorem appendEntries_new : ∀ (ws : List MapEntryWrite) {i : Nat} {m m' : List MapEntry} {srcs srcs' : List Byte} {c c' : Bool},
    appendEntries i m srcs c ws = .stored m' srcs' c' → ∃ new : List MapEntry, m' = m ++ new ∧ new.length = ws.length
      ∧ (∀ j w, ws[j]? = some w → ∃ e, new[j]? = some e ∧ StoredAs (m ++ new.take j) w e)
      ∧ (c' = true ↔ c = true ∨ ∃ (j : Nat) (w : MapEntryWrite) (e : MapEntry),
          ws[j]? = some w ∧ new[j]? = some e ∧ w.capture = true ∧ e.capture = false)
      ∧ srcs' = new.foldl (fun known e => if e.source ∈ known then known else known ++ [e.source]) srcs
  | [], i, m, m', srcs, srcs', c, c', h => by
    rw [appendEntries] at h
    injection h with hm hs hc
    subst hm hs hc
    exact ⟨[], by simp, rfl, by simp, by simp, rfl⟩
  | w :: ws, i, m, m', srcs, srcs', c, c', h => by
    rcases writeCheck_cases m srcs w with ⟨r, hr⟩ | ⟨e, he, hc⟩
    · rw [appendEntries_refused hr] at h; cases h
    · rw [appendEntries_taken he hc] at h
      obtain ⟨new, rfl, length, entries, cleared, sources⟩ := appendEntries_new ws h
      refine ⟨{ e with capture := keptFlag m e } :: new, by simp, by simp [length], fun j x hx => ?_, ?_, sources⟩
      · cases j with
        | zero =>
          cases hx
          exact ⟨_, rfl, by simpa using storedAs_of_read he⟩
        | succ j =>
          obtain ⟨y, hy, stored⟩ := entries j x hx
          exact ⟨y, hy, by simpa using stored⟩
      · rw [cleared]
        have flag : e.capture = w.capture := (readEntry_some he).2.2.2.2
        constructor
        · rintro (h | ⟨j, x, y, hx, hy, h⟩)
          · rcases Bool.or_eq_true_iff.1 h with h | h
            · exact .inl h
            · rw [flag, Bool.and_eq_true, Bool.not_eq_true'] at h
              exact .inr ⟨0, w, _, rfl, rfl, h⟩
          · exact .inr ⟨j + 1, x, y, hx, hy, h⟩
        · rintro (h | ⟨j, x, y, hx, hy, asked, kept⟩)
          · exact .inl (by simp [h])
          · cases j with
            | zero =>
              cases hx
              cases hy
              exact .inl (by simp [flag, asked, show keptFlag m e = false from kept])
            | succ j => exact .inr ⟨j, x, y, hx, hy, asked, kept⟩

/-! ### APPEND MAP (R23 to R25, R174) -/

/-- The map, the source table and the counter after an APPEND MAP, before capture acts on it. -/
def State.mapAppended (s : State) (m : List MapEntry) (srcs : List Byte) (extra : Nat) : State :=
  { s with
    map := m
    sources := s.sources ++ (srcs.drop s.sources.length).map fun a => newSource a s.now
    mapOverflow := bumpBy s.mapOverflow extra }

theorem channelsOf_append (m new : List MapEntry) : channelsOf (m ++ new) = channelsOf m ++ channelsOf new :=
  List.filterMap_append

/-- No new entry with its capture flag leaves capture, one with it edits the channel list. -/
theorem appendMap_kept {s : State} {new : List MapEntry} (h : ∀ e ∈ new, e.capture = false) (srcs : List Byte) (extra : Nat) :
    s.appendMap (s.map ++ new) srcs extra = s.mapAppended (s.map ++ new) srcs extra := by
  refine if_pos ?_
  rw [channelsOf_append, State.channels, List.append_right_eq_self]
  exact List.filterMap_eq_nil_iff.2 fun e he => by simp [h e he]

theorem appendMap_edits {s : State} {new : List MapEntry} (h : ∃ e ∈ new, e.capture = true ∧ e.role ≠ none) (srcs : List Byte)
    (extra : Nat) : s.appendMap (s.map ++ new) srcs extra = (s.mapAppended (s.map ++ new) srcs extra).channelsChanged := by
  refine if_neg ?_
  rw [channelsOf_append, State.channels, List.append_right_eq_self]
  obtain ⟨e, he, flag, role⟩ := h
  intro none
  have := List.filterMap_eq_nil_iff.1 none e he
  simp [flag, role] at this

theorem doAppendMap_refuses {s : State} {es : List MapEntryWrite} (few : ¬ (es.length = 0 ∨ 16 < es.length)) (hm : s.mode = .config)
    {r : Reason} {i : Nat} (h : appendEntries 0 s.map (s.sources.map (·.addr)) false (es.take (64 - s.map.length)) = .refusedAt r i) :
    s.doAppendMap es = (s, refusedAt r (BitVec.ofNat 8 i)) := by
  rw [State.doAppendMap, if_neg few, if_neg (not_not.2 hm)]
  dsimp only
  rw [h]

theorem doAppendMap_stores {s : State} {es : List MapEntryWrite} (few : ¬ (es.length = 0 ∨ 16 < es.length)) (hm : s.mode = .config)
    {m : List MapEntry} {srcs : List Byte} {cleared : Bool}
    (h : appendEntries 0 s.map (s.sources.map (·.addr)) false (es.take (64 - s.map.length)) = .stored m srcs cleared) :
    s.doAppendMap es = (s.appendMap m srcs (es.length - (es.take (64 - s.map.length)).length),
      carried (cleared || decide ((es.take (64 - s.map.length)).length < es.length)) []) := by
  rw [State.doAppendMap, if_neg few, if_neg (not_not.2 hm)]
  dsimp only
  rw [h, List.length_take]
  dsimp only
  rw [show es.length - min (64 - s.map.length) es.length = es.length - (64 - s.map.length) by omega]
  congr 3
  rw [decide_eq_decide]
  omega

theorem bumpBy_zero (c : Nat) : bumpBy c 0 = c := by unfold bumpBy; omega

/-- Settles O26. -/
theorem appendMapStoresOneEntry : Obligations.AppendMapStoresOneEntry := by
  intro s rq w role h hm room few h0 h255 hslot hrole free fresh kept
  set e : MapEntry := ⟨w.source, ⟨w.slot.toNat, hslot⟩, role, w.gain, kept⟩ with he
  set addrs := s.sources.map (·.addr) with haddrs
  have new : ¬ repeats s.map ⟨w.source, ⟨w.slot.toNat, hslot⟩, role, w.gain, w.capture⟩ := by
    rintro (⟨r, hr, two⟩ | ⟨x, hx, same⟩)
    · exact absurd (free r hr) (by omega)
    · exact fresh x hx same
  have checked := entryCheck_fresh new addrs
  rw [if_neg (by simp [haddrs]; omega)] at checked
  have one : [w].take (64 - s.map.length) = [w] := List.take_of_length_le (by simp; omega)
  set srcs := if w.source ∈ addrs then addrs else addrs ++ [w.source] with hsrcs
  have stored : appendEntries 0 s.map addrs false [w] = .stored (s.map ++ [e]) srcs (w.capture && !kept) :=
    appendEntries_taken (readEntry_of h0 h255 hslot hrole) checked 0 false []
  rw [← one] at stored
  have flag : (w.capture && !kept) = (w.capture && (role.isNone || decide (8 ≤ (s.map.filter (·.capture)).length))) := by
    have many : decide (8 ≤ (s.map.filter (·.capture)).length) = !decide ((s.map.filter (·.capture)).length < 8) := by
      rw [← decide_not, decide_eq_decide]
      omega
    have distributes : ∀ a b c : Bool, (a && !(a && b && c)) = (a && (!b || !c)) := by decide
    rw [many, ← Option.not_isSome]
    exact distributes ..
  have applies : s.doAppendMap [w] = (s.appendMap (s.map ++ [e]) srcs 0,
      carried (w.capture && (role.isNone || decide (8 ≤ (s.map.filter (·.capture)).length))) []) := by
    rw [doAppendMap_stores (by simp) hm stored, one, ← flag]
    simp
  have sources : (s.mapAppended (s.map ++ [e]) srcs 0).sources = if w.source ∈ addrs then s.sources
      else s.sources ++ [⟨w.source, .new, none, s.now, 0, none, 0⟩] := by
    have length : s.sources.length = addrs.length := by simp [haddrs]
    show s.sources ++ (srcs.drop s.sources.length).map (fun a => newSource a s.now) = _
    rw [length, hsrcs]
    split
    · simp
    · rw [List.drop_left]
      rfl
  have base : s.mapAppended (s.map ++ [e]) srcs 0 = { s with
      map := s.map ++ [e], sources := (s.mapAppended (s.map ++ [e]) srcs 0).sources } := by
    unfold State.mapAppended
    rw [bumpBy_zero]
  refine ⟨_, request_answers h rq _ applies, ?_⟩
  cases hk : kept with
  | false =>
    rw [appendMap_kept (by simpa using hk)]
    exact ⟨rfl, sources, fun _ => base, nofun⟩
  | true =>
    have role : role ≠ none := by
      intro none
      simp [kept, none] at hk
    rw [appendMap_edits ⟨e, List.mem_singleton_self e, hk, role⟩]
    set u := s.mapAppended (s.map ++ [e]) srcs 0 with hu
    have only := channelsChanged_only u
    have map : u.channelsChanged.map = s.map ++ [e] := by rw [only]; rfl
    have same : u.channelsChanged.sources = u.sources := by rw [only]
    refine ⟨map, by rw [same, sources], nofun, fun _ => ?_⟩
    rw [map, same, ← base]
    exact channelsChanged_edited u

end Sys2Proof.Machine
end

section
/-! WRITE HARMONIC and WRITE LINK, and the requests that write several entries of a table. -/

namespace Sys2Proof.Machine

/-! ### WRITE HARMONIC (R149, R150) -/

theorem repeated_iff (l : List Nat) : repeated l = true ↔ ¬ l.Nodup := by
  induction l with
  | nil => simp [repeated]
  | cons x l ih => simp [repeated, ih, List.nodup_cons, imp_iff_not_or]

theorem nodup_toNat {α : Type} (l : List (Byte × α)) : (l.map fun x => x.1.toNat).Nodup ↔ (l.map fun x => x.1).Nodup := by
  have maps : (l.map fun x => x.1.toNat) = (l.map fun x => x.1).map BitVec.toNat := by simp
  rw [maps]
  exact List.nodup_map_iff fun _ _ => BitVec.eq_of_toNat_eq

theorem clampedTable_eq (w : HarmonicWrite) : clampedTable w = {
    orders := w.orders.map fun x => (x.1.toNat, max 1 (min x.2.toNat 1000))
    thdLimit := max 1 (min w.thdLimit.toNat 1000)
    alarmDelay := max 1 (min w.alarmDelay.toNat 600)
    recoverDelay := max 1 (min w.recoverDelay.toNat 30000) } := by
  unfold clampedTable
  simp only [clampNat_eq (show 1 ≤ 1000 by omega), clampNat_eq (show 1 ≤ 600 by omega), clampNat_eq (show 1 ≤ 30000 by omega)]

theorem notices_only (ns : List Notice) (s : State) : onlyNoticed s (ns.foldl State.notice s) :=
  foldl_frame onlyNoticed_refl onlyNoticed_trans notice_only ns s

/-- A table write clears every phase alarm and counter. -/
theorem writeTable_cleared (s : State) (t : HarmonicTable) (p : Phase) (q : Option Nat) :
    (s.writeTable t).getQuantity p q = ⟨0, 0, false⟩ := by
  have alarms : (s.writeTable t).alarms = Vector.replicate 3 ⟨t.orders.map fun _ => resetQuantity, resetQuantity⟩ := by
    rw [State.writeTable, notices_only]
  rw [State.getQuantity, alarms, Fin.getElem_fin, Vector.getElem_replicate]
  cases q with
  | none => rfl
  | some i =>
    rw [PhaseAlarms.get, List.getElem?_map]
    cases t.orders[i]? <;> rfl

theorem anyBusAlarm_of_cleared {s : State} (h : ∀ p q, s.getQuantity p q = ⟨0, 0, false⟩) : s.anyBusAlarm = false := by
  have clear (p : Phase) (q : Option Nat) : (s.getQuantity p q).alarm = false := by rw [h]
  have order (i : Nat) : s.orderAlarm i = false := by
    show ((s.getQuantity .A (some i)).alarm || (s.getQuantity .B (some i)).alarm || (s.getQuantity .C (some i)).alarm) = false
    simp only [clear, Bool.or_self]
  have thd : s.thdAlarm = false := by
    show ((s.getQuantity .A none).alarm || (s.getQuantity .B none).alarm || (s.getQuantity .C none).alarm) = false
    simp only [clear, Bool.or_self]
  simp [State.anyBusAlarm, order, thd]

theorem writeTable_stage (s : State) (t : HarmonicTable) (k : StageIx) :
    (s.writeTable t).stage k = { s.stage k with overCount := 0 } := by
  have stages : (s.writeTable t).stages = s.stages.map fun a => { a with overCount := 0 } := by
    rw [State.writeTable, notices_only]
  exact State.stage_map stages k

theorem doWriteHarmonic_refuses {s : State} {w : HarmonicWrite} {r : Reason} (h : tableCheck w = some r) :
    s.doWriteHarmonic (some w) = (s, refused r) := by
  rw [State.doWriteHarmonic, h]

theorem doWriteHarmonic_writes {s : State} {w : HarmonicWrite} (h : tableCheck w = none) :
    s.doWriteHarmonic (some w) = (s.writeTable (clampedTable w),
      carried (decide (clampedTable w ≠ givenTable w)) (encTable (clampedTable w))) := by
  rw [State.doWriteHarmonic, h]

/-! ### WRITE LINK (R94, R180, R196, R197) -/

/-- The link settings of a request as they are stored. -/
def storedLink (w : LinkWrite) : LinkSettings where
  checkModes := w.checkModes.map fun b => if b = 0 then .cut else .hold
  threshold := max 8 (min w.threshold.toNat 256)
  watchdog := min w.watchdog.toNat 600
  alarmMask := w.alarmMask
  noticeAddress := w.noticeAddress
  nominal := if w.nominal = 60 then .hz60 else .hz50
  closeLimit := max 1 (min w.closeLimit.toNat 4)
  closeGap := min w.closeGap.toNat 10000
  closeTimeout := max 20 (min w.closeTimeout.toNat 2000)
  openTimeout := max 20 (min w.openTimeout.toNat 2000)
  silence := max 100 (min w.silence.toNat 10000)

theorem checkModeOfCode_none {b : Byte} : (checkModeOfCode b).isNone = true ↔ b ≠ 0 ∧ b ≠ 1 := by
  unfold checkModeOfCode
  split <;> [skip; split] <;> simp_all

theorem readLink_refused {w : LinkWrite} (h : (∃ b ∈ w.checkModes.toList, b ≠ 0 ∧ b ≠ 1) ∨ w.noticeAddress = 255
    ∨ (w.nominal ≠ 50 ∧ w.nominal ≠ 60)) : readLink w = none := by
  unfold readLink
  split
  · rfl
  · next ok =>
    rw [Bool.not_eq_true, Bool.or_eq_false_iff, List.any_eq_false, beq_eq_false_iff_ne] at ok
    rcases h with ⟨b, hb, bad⟩ | bad | ⟨n50, n60⟩
    · exact absurd (checkModeOfCode_none.2 bad) (ok.1 b hb)
    · exact absurd bad ok.2
    · rw [nominalOfHz, if_neg n50, if_neg n60]
      rfl

theorem readLink_reads {w : LinkWrite} (h : ¬ ((∃ b ∈ w.checkModes.toList, b ≠ 0 ∧ b ≠ 1) ∨ w.noticeAddress = 255
    ∨ (w.nominal ≠ 50 ∧ w.nominal ≠ 60))) : readLink w = some (storedLink w) := by
  obtain ⟨modes, h⟩ := not_or.1 h
  obtain ⟨address, nominal⟩ := not_or.1 h
  have known : nominalOfHz w.nominal = some (if w.nominal = 60 then .hz60 else .hz50) := by
    unfold nominalOfHz
    by_cases n50 : w.nominal = 50
    · rw [n50]; rfl
    · have n60 : w.nominal = 60 := by by_contra n60; exact nominal ⟨n50, n60⟩
      rw [n60]; rfl
  have checks : w.checkModes.map (fun b => (checkModeOfCode b).getD .hold) = w.checkModes.map fun b => if b = 0 then .cut else .hold := by
    refine Vector.map_congr_left fun b _ => ?_
    unfold checkModeOfCode
    split <;> [rfl; split <;> rfl]
  unfold readLink storedLink
  rw [if_neg, known, checks]
  · simp only [Option.map_some, clampNat_eq (show 8 ≤ 256 by omega), clampNat_eq (Nat.zero_le _), Nat.zero_max,
      clampNat_eq (show 1 ≤ 4 by omega), clampNat_eq (show 20 ≤ 2000 by omega), clampNat_eq (show 100 ≤ 10000 by omega)]
  · rw [Bool.not_eq_true, Bool.or_eq_false_iff, List.any_eq_false, beq_eq_false_iff_ne]
    exact ⟨fun b hb bad => modes ⟨b, hb, checkModeOfCode_none.1 bad⟩, address⟩

/-- The state with the settings written, before a selection. -/
def State.linked (s : State) (w : LinkWrite) : State :=
  { s with
    link := storedLink w
    watchdog := if w.watchdog = 0 then .off else .running s.now
    tracker := if (storedLink w).nominal = s.link.nominal then s.tracker else
      { s.tracker with crossings := [], last := none, since := 0, freq := none } }

theorem writeLink_eq (s : State) (w : LinkWrite) : s.writeLink (storedLink w) =
    if (s.linked w).gapRunOut then (s.linked w).selection else s.linked w := by
  have off : (storedLink w).watchdog = 0 ↔ w.watchdog = 0 := by
    show min w.watchdog.toNat 600 = 0 ↔ _
    rw [← BitVec.toNat_inj]
    simp
  have linked : (if (storedLink w).nominal = s.link.nominal then State.restartWatchdog { s with link := storedLink w }
      else { State.restartWatchdog { s with link := storedLink w } with tracker := s.tracker.discard }) = s.linked w := by
    unfold State.restartWatchdog State.linked
    simp only [off]
    split <;> rfl
  rw [State.writeLink, ← linked]
  rfl

theorem doWriteLink_refuses {s : State} {w : LinkWrite} (h : readLink w = none) : s.doWriteLink (some w) = (s, refused .index) := by
  rw [State.doWriteLink, h]

theorem doWriteLink_ends {s : State} {w : LinkWrite} {l : LinkSettings} (h : readLink w = some l) : s.doWriteLink (some w) =
    if s.mode ≠ .config ∧ (l.nominal ≠ s.link.nominal ∨ l.closeLimit ≠ s.link.closeLimit) then (s, refused .mode)
    else (s.writeLink l, carried (linkBrought w l) (encLink l)) := by
  rw [State.doWriteLink, h]

theorem appendMap_only (s : State) (m : List MapEntry) (srcs : List Byte) (extra : Nat) :
    onlyNoticed { s.mapAppended m srcs extra with cap := (s.appendMap m srcs extra).cap } (s.appendMap m srcs extra) := by
  unfold State.appendMap
  dsimp only
  split
  · rfl
  · exact channelsChanged_only (s.mapAppended m srcs extra)

/-- Settles O51. -/
theorem tablesAndSettingsAreWritten : Obligations.TablesAndSettingsAreWritten := by
  refine ⟨fun s rq h => ⟨request_answers h rq _ rfl, request_answers h rq _ rfl, fun w => ?_, fun w => ?_⟩, fun s rq es h => ⟨fun few => ?_, fun least most => ⟨fun hm => ?_, fun hm => ?_⟩⟩,
    fun w => readEntry_none, entryCheck_spec⟩
  · intro turned c
    have refuses (r : Reason) (e : some r = tableCheck w) : turned r := request_answers h rq _ (doWriteHarmonic_refuses e.symm)
    have writes (e : none = tableCheck w) : exec (.writeHarmonic rq (some w)) s
        = .next ((s.writeTable (clampedTable w)).reply rq 0x31 false
          (carried (decide (clampedTable w ≠ givenTable w)) (encTable (clampedTable w)))) :=
      request_answers h rq _ (doWriteHarmonic_writes e.symm)
    generalize hc : tableCheck w = o at refuses writes
    unfold tableCheck at hc
    refine check_first Iff.rfl hc (refuses _) fun _ hc => ?_
    refine check_first (by simp) hc (refuses _) fun _ hc => ?_
    refine check_first (by rw [repeated_iff, nodup_toNat]) hc (refuses _) fun _ hc => ?_
    have stored := writes hc
    rw [clampedTable_eq] at stored
    have cleared := writeTable_cleared s c
    have table : (s.writeTable c).table = c := by rw [State.writeTable, notices_only]
    have only : onlyNoticed { s with table := c, alarms := (s.writeTable c).alarms, stages := (s.writeTable c).stages } (s.writeTable c) := by
      rw [State.writeTable]
      obtain ⟨_, _, _, e⟩ := onlyNoticed_iff.1 (notices_only s.clearedAlarms { s with
        table := c
        alarms := Vector.replicate 3 ⟨c.orders.map fun _ => resetQuantity, resetQuantity⟩
        stages := s.stages.map fun a => { a with overCount := 0 } })
      rw [e]
      rfl
    exact ⟨_, stored, table, anyBusAlarm_of_cleared cleared, cleared, writeTable_stage s c, by rw [table]; exact only⟩
  · intro turned bad l u
    by_cases refused : bad
    · rw [if_pos refused]
      exact request_answers h rq _ (doWriteLink_refuses (readLink_refused refused))
    · rw [if_neg refused]
      have ends := doWriteLink_ends (s := s) (readLink_reads refused)
      by_cases moded : s.mode ≠ .config ∧ (l.nominal ≠ s.link.nominal ∨ l.closeLimit ≠ s.link.closeLimit)
      · rw [if_pos moded]
        exact request_answers h rq _ (ends.trans (if_pos moded))
      · rw [if_neg moded]
        refine request_answers h rq _ ((ends.trans (if_neg moded)).trans (Prod.ext ?_ rfl))
        refine (writeLink_eq s w).trans ?_
        unfold State.gapRunOut
        rw [show (s.linked w).lastClose = s.lastClose from rfl]
        cases s.lastClose with
        | none => rfl
        | some t =>
          simp only [decide_eq_true_eq]
          rfl
  · refine request_answers h rq _ (if_pos (few.imp_left fun e => by rw [e]; rfl))
  · exact request_answers h rq _ ((if_neg (by omega)).trans (if_pos hm))
  · have size : ¬ (es.length = 0 ∨ 16 < es.length) := by omega
    refine ⟨appendEntries_outcome .., fun i w m srcs cleared r hw before hr =>
      request_answers h rq _ (doAppendMap_refuses size hm (appendEntries_refusedAt hw before hr)), fun m srcs cleared stored => ?_⟩
    obtain ⟨new, rfl, length, entries, hcleared, hsrcs⟩ := appendEntries_new _ stored
    have applies := doAppendMap_stores size hm stored
    generalize (es.take (64 - s.map.length)) = taken at length entries hcleared applies ⊢
    set t := s.appendMap (s.map ++ new) srcs (es.length - taken.length) with ht
    have only : onlyNoticed { s.mapAppended (s.map ++ new) srcs (es.length - taken.length) with cap := t.cap } t :=
      appendMap_only ..
    have map : t.map = s.map ++ new := by rw [only]; rfl
    have sources : t.sources = (s.mapAppended (s.map ++ new) srcs (es.length - taken.length)).sources := by rw [only]
    have overflow : t.mapOverflow = bumpBy s.mapOverflow (es.length - taken.length) := by rw [only]; rfl
    have base : { s with map := t.map, sources := t.sources, mapOverflow := t.mapOverflow }
        = s.mapAppended (s.map ++ new) srcs (es.length - taken.length) := by
      rw [map, sources, overflow]
      rfl
    refine ⟨t, request_answers h rq _ applies, map, ⟨new, rfl, length, fun i w hw => ?_, ?_, hsrcs, fun unflagged => ?_, fun ⟨e, he, flag⟩ => ?_⟩,
      sources, overflow, ?_⟩
    · obtain ⟨e, he, source, slot, role, gain, capture⟩ := entries i w hw
      exact ⟨e, he, source, slot, role, gain, capture⟩
    · rw [hcleared]
      simp
    · rw [base]
      exact appendMap_kept unflagged ..
    · rw [base, ht]
      obtain ⟨i, hi, rfl⟩ := List.mem_iff_getElem.1 he
      obtain ⟨x, hx, as⟩ := entries i taken[i] (List.getElem?_eq_getElem (length ▸ hi))
      rw [List.getElem?_eq_getElem hi] at hx
      cases hx
      rw [appendMap_edits ⟨_, he, flag, (as.capture.1 flag).2.1⟩]
      exact channelsChanged_edited _
    · rw [map, sources, overflow]
      exact only

end Sys2Proof.Machine
end

section
/-! The frequency tracker (R52 to R55). -/

namespace Sys2Proof.Machine

/-! ### The frequency tracker (R52 to R55) -/

theorem counterAt_eq (w : WindowIx) {n : Nat} (h : n < 32) : counterAt w n = BitVec.ofNat 16 (32 * w.toNat + n) := by
  refine BitVec.eq_of_toNat_eq ?_
  have := w.isLt
  rw [counterAt, BitVec.toNat_append, ← Nat.shiftLeft_add_eq_or_of_lt (BitVec.isLt _), Nat.shiftLeft_eq, BitVec.toNat_ofNat,
    BitVec.toNat_ofNat]
  omega

/-- The walk is the step at each position, under its counter. -/
theorem walk_eq (w : WindowIx) : ∀ (xs : List (Option Int)) (n : Nat) (t : Tracker), n + xs.length ≤ 32 →
    Tracker.walk w n xs t = (xs.zipIdx n).foldl (fun u x => u.step (BitVec.ofNat 16 (32 * w.toNat + x.2)) x.1) t
  | [], _, _, _ => rfl
  | x :: xs, n, t, h => by
    rw [List.length_cons] at h
    rw [Tracker.walk, counterAt_eq w (by omega), walk_eq w xs _ _ (by omega)]
    rfl

theorem crossingPos_eq (c : SampleCounter) (a b : Int) :
    crossingPos c a b = BitVec.ofNat 20 (16 * (c - 1).toNat + min 15 (-a * 16 / (b - a)).toNat) := by
  refine BitVec.eq_of_toNat_eq ?_
  have := (c - 1).isLt
  rw [crossingPos, BitVec.toNat_append, ← Nat.shiftLeft_add_eq_or_of_lt (BitVec.isLt _), Nat.shiftLeft_eq, BitVec.toNat_ofNat,
    BitVec.toNat_ofNat]
  omega

theorem step_crosses {t : Tracker} {c : SampleCounter} {a b : Int} (last : t.last = some (c - 1, a)) (low : a < 0) (high : 0 ≤ b) :
    t.step c (some b)
      = { t with crossings := joinCrossing t.crossings (crossingPos c a b), since := 0, last := some (c, b) } := by
  have crosses : crossing t c b = some a := by
    rw [crossing, last]
    exact if_pos ⟨rfl, low, high⟩
  rw [Tracker.step, crosses]

theorem step_counts {t : Tracker} {c : SampleCounter} {b : Int} (h : ∀ a, t.last = some (c - 1, a) → 0 ≤ a ∨ b < 0) :
    t.step c (some b) = if t.crossings = [] then { t with last := some (c, b) }
      else if t.since + 1 < 64 then { t with since := t.since + 1, last := some (c, b) }
      else { t.discard with last := some (c, b) } := by
  have none : crossing t c b = none := by
    unfold crossing
    split
    · next l a hl =>
      refine if_neg fun ⟨before, low, high⟩ => ?_
      have := h a (by rw [hl, before])
      omega
    · rfl
  rw [Tracker.step, none]

theorem follows_iff (l : SampleCounter) (w : WindowIx) : windowOf l + 1 = w ↔ (l.toNat / 32 + 1) % 2048 = w.toNat := by
  rw [← BitVec.toNat_inj, BitVec.toNat_add]
  have : (windowOf l).toNat = l.toNat / 32 := by
    have := l.isLt
    simp [windowOf, BitVec.extractLsb'_toNat, Nat.shiftRight_eq_div_pow]
    omega
  rw [this]
  rfl

/-- Settles O53. -/
theorem frequencyFromFiveCrossings : Obligations.FrequencyFromFiveCrossings := by
  refine ⟨fun t => ⟨fun c => ⟨rfl, fun a b last low high => ?_, fun b h => step_counts h⟩, fun nominal c length => ?_⟩,
    fun t nominal w hn => ⟨fun few => ?_, fun a b c d e five => ?_⟩⟩
  · rw [step_crosses last low high, crossingPos_eq]
    unfold joinCrossing
    by_cases few : t.crossings.length < 5
    · rw [if_neg (by omega), if_pos few]
    · rw [if_pos (by omega), if_neg few]
  · intro walked
    have walks (u : Tracker) : (u.walk c.w 0 c.pos).finish nominal c.w = walked u :=
      congrArg (Tracker.finish · nominal c.w) (walk_eq c.w c.pos 0 u (by omega))
    refine ⟨fun none => if_pos none, fun served => ⟨fun fresh => ?_, fun l a last => ⟨fun follows => ?_, fun gap => ?_⟩⟩⟩
    · rw [Tracker.take, if_neg served, fresh]
      exact walks t
    · rw [Tracker.take, if_neg served, last]
      dsimp only
      rw [if_pos ((follows_iff l c.w).2 follows)]
      exact walks t
    · rw [Tracker.take, if_neg served, last]
      dsimp only
      rw [if_neg (mt (follows_iff l c.w).1 gap)]
      exact walks t.discard
  · unfold Tracker.finish
    split
    · next five => exact absurd (by rw [five]; rfl) few
    · rfl
  · refine ⟨freqOf nominal (nominal * 2048 / (e - a).toNat), ?_, ?_, rfl, fun h => ?_, fun h => ?_⟩
    · rw [Tracker.finish, five]
    · show nominal * 2048 / (e - a).toNat = _
      rw [BitVec.toNat_sub]
      congr 2
      omega
    all_goals
      generalize nominal * 2048 / (e - a).toNat = mHz
      subst h
      simp only [freqOf, decide_eq_false_iff_not]
      omega
end Sys2Proof.Machine
end

section
/-! What the elements leave alone: the windows of the roles and the tracker. With it, what a handover makes of the roles (R41,
R44, R57), and the evaluation of windows (R58, R59). -/

namespace Sys2Proof.Machine

/-! ### The frame -/

/-- Buffers, slots and the tracker are as they were. -/
structure SameWindows (s t : State) : Prop where
  roles : t.roles = s.roles
  tracker : t.tracker = s.tracker

/-- All that the choice of a window to evaluate reads is as it was. -/
structure SameInputs (s t : State) : Prop extends SameWindows s t where
  evals : t.evals = s.evals

namespace SameInputs

theorem refl (s : State) : SameInputs s s := ⟨⟨rfl, rfl⟩, rfl⟩

theorem trans {s t u : State} (h : SameInputs s t) (h' : SameInputs t u) : SameInputs s u :=
  ⟨⟨h'.roles.trans h.roles, h'.tracker.trans h.tracker⟩, h'.evals.trans h.evals⟩

theorem switched {s t : State} (h : onlySwitched s t) : SameInputs s t := by
  refine ⟨⟨?_, ?_⟩, ?_⟩ <;> rw [h]

theorem modVc (s : State) (f : VoltageState → VoltageState) : SameInputs s (s.modVc f) := ⟨⟨rfl, rfl⟩, rfl⟩

theorem modQuantity (s : State) (p : Phase) (q : Option Nat) (f : QuantityState → QuantityState) :
    SameInputs s (s.modQuantity p q f) := ⟨⟨rfl, rfl⟩, rfl⟩

theorem notice (s : State) (n : Notice) : SameInputs s (s.notice n) := switched (notice_switched s n)

theorem trigger (s : State) (c : Cause) (k : Option StageIx) (w : Option WindowIx) : SameInputs s (s.trigger c k w) :=
  switched (trigger_switched s c k w)

theorem gather (s : State) (k : StageIx) (op : Operation) (c : CmdClass) (o : Origin) : SameInputs s (s.gather k op c o).1 :=
  switched (gather_switched s k op c o)

theorem foldl {α : Type} {f : State → α → State} (h : ∀ s a, SameInputs s (f s a)) (l : List α) (s : State) :
    SameInputs s (l.foldl f s) := foldl_frame refl trans h l s

/-! ### The bus harmonic elements -/

theorem raisePhaseAlarm (s : State) (p : Phase) (q : Option Nat) (v : Nat) (w : WindowIx) :
    SameInputs s (s.raisePhaseAlarm p q v w) := by
  unfold State.raisePhaseAlarm
  dsimp only
  split
  · exact modQuantity s p q _
  · exact ((modQuantity s p q _).trans (notice _ _)).trans (trigger _ _ _ _)

theorem recoverStep (s : State) (p : Phase) (q : Option Nat) (v : Nat) (w : WindowIx) :
    SameInputs s (s.recoverStep p q v w) := by
  have clear : SameInputs s (s.clearPhaseAlarm p q v w) := by
    unfold State.clearPhaseAlarm
    dsimp only
    split
    · exact modQuantity s p q _
    · exact (modQuantity s p q _).trans (notice _ _)
  unfold State.recoverStep
  dsimp only
  split
  · exact refl s
  · split
    · split
      · exact clear
      · exact modQuantity s p q _
    · exact modQuantity s p q _

theorem judgeQuantity (s : State) (p : Phase) (w : WindowIx) (q : Option Nat) (v : Nat) :
    SameInputs s (s.judgeQuantity p w q v) := by
  unfold State.judgeQuantity
  dsimp only
  refine trans ?_ (recoverStep _ _ _ _ _)
  split
  · exact (modQuantity s p q _).trans (raisePhaseAlarm _ _ _ _ _)
  · exact modQuantity s p q _

theorem judgeOrders (p : Phase) (w : WindowIx) : ∀ (vs : List Nat) (i : Nat) (s : State),
    SameInputs s (State.judgeOrders p w i vs s)
  | [], _, s => refl s
  | v :: vs, i, s => (judgeQuantity s p w (some i) v).trans (judgeOrders p w vs _ _)

theorem busHarmonicEvaluate (s : State) (p : Phase) (w : WindowIx) : SameInputs s (s.busHarmonicEvaluate p w) := by
  have bars (u : State) : SameInputs u (u.forStages (State.barStep w)) :=
    switched (foldl_switched (fun s k => barStep_switched w k s) allStages u)
  have last (u : State) : SameInputs u (if p = .A then u.forStages (State.barStep w) else u) := by
    split
    · exact bars u
    · exact refl u
  unfold State.busHarmonicEvaluate
  generalize s.judged (.busV p) w = j
  match j with
  | none => exact refl s
  | some (vs, none) => exact (judgeOrders p w vs 0 s).trans (last _)
  | some (vs, some t) => exact ((judgeOrders p w vs 0 s).trans (judgeQuantity _ p w none t)).trans (last _)

/-! ### Voltage control -/

theorem deadLineStep (s : State) (c : ControlSet) (full : Bool) (vc : Nat) (w : WindowIx) :
    SameInputs s (s.deadLineStep c full vc w) := by
  have opening (u : State) : SameInputs u (u.deadLineOpening vc w) := by
    have opens := foldl (fun s k => gather s k .open .protect .deadLine) u.deadLineStages u
    unfold State.deadLineOpening State.submitDeadLine
    dsimp only
    split
    · exact opens
    · exact ((opens.trans (modVc _ _)).trans (notice _ _)).trans (trigger _ _ _ _)
  have restore (u : State) : SameInputs u (u.restoreStep c full vc w) := by
    unfold State.restoreStep
    split
    · exact refl u
    split
    · exact modVc u _
    split
    · exact refl u
    split
    · exact (modVc u _).trans (notice _ _)
    · exact modVc u _
  unfold State.deadLineStep
  dsimp only
  refine trans ?_ (restore _)
  split
  · exact (modVc s _).trans (opening _)
  · exact modVc s _

theorem tryFastRemoval (s : State) : SameInputs s s.tryFastRemoval.1 := by
  unfold State.tryFastRemoval
  split
  · exact refl s
  · split
    · exact refl s
    · next k _ =>
      have gathered := gather s k .open .normal .fastRemoval
      split
      · next s' heq =>
        rw [heq] at gathered
        have cleared := modVc s' fun v => { v with fastPending := false, fastCount := 0, acc := 0, withheld := .clear }
        exact gathered.trans cleared
      · next heq => rw [heq] at gathered; exact gathered

theorem submitStep (s : State) (c : ControlSet) (k : StageIx) (op : Operation) (m : Withheld) :
    SameInputs s (s.submitStep c k op m) := by
  have gathered := gather s k op .normal .voltage
  unfold State.submitStep
  split
  · next heq => rw [heq] at gathered; exact gathered.trans (modVc _ _)
  · next heq => rw [heq] at gathered; exact gathered.trans (modVc _ _)

theorem bandStep (s : State) (c : ControlSet) (vc : Nat) : SameInputs s (s.bandStep c vc) := by
  have removal (u : State) : SameInputs u (u.removalStep c vc) := by
    unfold State.removalStep
    split
    · split
      · exact submitStep _ _ _ _ _
      · exact modVc u _
    · exact modVc u _
  have insertion (u : State) : SameInputs u (u.insertionStep c vc) := by
    unfold State.insertionStep
    split
    · split
      · exact submitStep _ _ _ _ _
      · exact modVc u _
    · exact modVc u _
  unfold State.bandStep
  split
  · exact modVc s _
  · refine (modVc s (integrate c vc)).trans ?_
    unfold State.stepDecision
    dsimp only
    split
    · split
      · exact modVc _ _
      · exact removal _
    · split
      · split
        · exact modVc _ _
        · exact insertion _
      · exact refl _

theorem voltageEvaluate (s : State) (w : WindowIx) : SameInputs s (s.voltageEvaluate w) := by
  have missing (u : State) : SameInputs u (u.voltageMissing w) := by
    unfold State.voltageMissing
    dsimp only
    split
    · exact ((modVc u _).trans (modVc _ _)).trans (notice _ _)
    · exact modVc u _
  have resume (u : State) : SameInputs u (u.voltageResume w) := by
    unfold State.voltageResume
    split
    · exact (modVc u _).trans (notice _ _)
    · exact refl u
  have steps (u : State) (full : Bool) (vc : Nat) : SameInputs u (u.voltageSteps full vc w) := by
    have tried := ((deadLineStep u u.forceSet full vc w).trans (modVc _ (overvoltage u.forceSet vc))).trans (tryFastRemoval _)
    unfold State.voltageSteps
    dsimp only
    split
    · exact tried
    · exact tried.trans (bandStep _ _ _)
  unfold State.voltageEvaluate
  dsimp only
  split
  · exact missing s
  · exact ((modVc s _).trans (resume _)).trans (steps _ _ _)

/-! ### The elements -/

theorem evaluate (s : State) (e : Element) (w : WindowIx) : SameInputs s (s.evaluate e w) := by
  cases e with
  | voltage => exact voltageEvaluate s w
  | unbalance k => exact switched (unbalanceEvaluate_switched s k w)
  | busHarmonic p => exact busHarmonicEvaluate s p w
  | stageHarmonic k => exact switched (stageHarmonicEvaluate_switched s k w)

end SameInputs

namespace SameWindows

theorem trans {s t u : State} (h : SameWindows s t) (h' : SameWindows t u) : SameWindows s u :=
  ⟨h'.roles.trans h.roles, h'.tracker.trans h.tracker⟩

theorem evaluateFrom (e : Element) : ∀ (n : Nat) (s : State), SameWindows s (State.evaluateFrom n e s)
  | 0, s => ⟨rfl, rfl⟩
  | n + 1, s => by
    unfold State.evaluateFrom
    split
    · exact ⟨rfl, rfl⟩
    · split
      · next w _ _ =>
        have stepped : SameWindows s ((s.evaluate e w).modEval e fun _ => ⟨some w, some (w + 1), some s.now⟩) :=
          SameWindows.trans (SameInputs.evaluate s e w).toSameWindows ⟨rfl, rfl⟩
        exact stepped.trans (evaluateFrom e n _)
      · exact ⟨rfl, rfl⟩

theorem elementSees (w : WindowIx) (s : State) (e : Element) : SameWindows s (State.elementSees w s e) := by
  unfold State.elementSees
  split
  · exact SameWindows.trans (t := s.modEval e (firstCandidate w)) ⟨rfl, rfl⟩ (evaluateFrom e _ _)
  · exact ⟨rfl, rfl⟩

theorem foldl {α : Type} {f : State → α → State} (h : ∀ s a, SameWindows s (f s a)) (l : List α) (s : State) :
    SameWindows s (l.foldl f s) := foldl_frame (P := SameWindows) (fun _ => ⟨rfl, rfl⟩) trans h l s

theorem role {s t : State} (h : SameWindows s t) (r : Role) : t.role r = s.role r := congrArg (·[roleIx r]) h.roles

end SameWindows

/-! ### The handover (R41, R44, R57) -/

/-- The tracker at the handover of a window. -/
def State.tracked (s : State) (r : Role) (c : ClosedWindow) : Tracker :=
  if r = .busV .A then s.tracker.take s.nominalMHz c else s.tracker

/-- The result that a handover publishes. -/
def State.resultOf (s : State) (r : Role) (c : ClosedWindow) : ResultSlot :=
  resultSlot (s.table.orders.map (·.1)) r c (if r = .busV .A then (s.tracked r c).freq else none)

/-- The buffers of the role that hands a window over. -/
def RoleState.handedOver (a : RoleState) (c : ClosedWindow) (now : PartTime) (x : ResultSlot) : RoleState :=
  { a with handed := some (c.w, now), newest := some x, previous := a.newest }

/-- The part once the window is published, before capture and the elements take it. -/
def State.published (s : State) (r : Role) (c : ClosedWindow) : State :=
  { s with tracker := s.tracked r c, roles := s.roles.set (roleIx r) ((s.role r).handedOver c s.now (s.resultOf r c)) }

theorem State.modRole_modRole (s : State) (r : Role) (f g : RoleState → RoleState) :
    (s.modRole r f).modRole r g = s.modRole r fun a => g (f a) := by
  simp [State.modRole]

theorem compute_eq (s : State) (r : Role) (c : ClosedWindow) :
    (s.modRole r fun a => { a with handed := some (c.w, s.now) }).compute r c = s.published r c := by
  have twice (u : State) := u.modRole_modRole r (fun a => { a with handed := some (c.w, s.now) })
    fun a => { a with newest := some (s.resultOf r c), previous := a.newest }
  unfold State.published
  unfold State.resultOf State.tracked at *
  unfold State.compute
  by_cases bus : r = .busV .A
  · simp only [if_pos bus] at *
    exact twice { s with tracker := s.tracker.take s.nominalMHz c }
  · simp only [if_neg bus] at *
    exact twice s

theorem handOver_eq (s : State) (r : Role) (c : ClosedWindow) : s.handOver r c
    = (((s.published r c).captureTake r c).elementsOf r).foldl (State.elementSees c.w) ((s.published r c).captureTake r c) := by
  unfold State.handOver
  dsimp only
  rw [compute_eq]

theorem handOver_windows (s : State) (r : Role) (c : ClosedWindow) : SameWindows (s.published r c) (s.handOver r c) := by
  rw [handOver_eq]
  exact (SameInputs.switched (captureTake_switched _ _ _)).toSameWindows.trans (SameWindows.foldl (SameWindows.elementSees c.w) _ _)

theorem handOver_role (s : State) (r : Role) (c : ClosedWindow) :
    (s.handOver r c).role r = (s.role r).handedOver c s.now (s.resultOf r c) :=
  ((handOver_windows s r c).role r).trans (s.modRole_role r fun a => a.handedOver c s.now (s.resultOf r c))

theorem handOver_role_ne (s : State) {r q : Role} (c : ClosedWindow) (other : q ≠ r) : (s.handOver r c).role q = s.role q :=
  ((handOver_windows s r c).role q).trans (s.modRole_role_ne (fun a => a.handedOver c s.now (s.resultOf r c)) other)

/-- Settles O29: the elements leave slots and buffers as the publication made them. -/
theorem handoverPublishes : Obligations.HandoverPublishes := by
  intro s r c t
  have own : t.role r = _ := handOver_role s r c
  have served : (s.resultOf r c).vals = none ↔ c.by_ = .none := by
    change (if c.by_ = .none then none else some _) = none ↔ _
    split <;> simp_all
  refine ⟨⟨_, congrArg RoleState.newest own, rfl, rfl, rfl, rfl, rfl, served⟩, congrArg RoleState.previous own,
    congrArg RoleState.handed own, (congrArg RoleState.openWin own :), fun q other => handOver_role_ne s c other,
    handOver_evaluated s r c, ?_⟩
  have nominal : s.nominalMHz = if s.link.nominal = .hz60 then 60000 else 50000 := by
    unfold State.nominalMHz
    cases s.link.nominal <;> rfl
  refine (handOver_eq s r c).trans ?_
  unfold State.published State.resultOf State.tracked
  rw [nominal]
  rfl

/-! ### The evaluation of windows (R58, R59) -/

theorem elementSees_config {s : State} (config : s.mode = .config) (w : WindowIx) (e : Element) : State.elementSees w s e = s := by
  rw [State.elementSees, if_neg (by simp [State.running, config])]

theorem elementSees_runs {s : State} (runs : s.mode ≠ .config) (w : WindowIx) (e : Element) :
    State.elementSees w s e = State.evaluateFrom 2048 e (s.modEval e (firstCandidate w)) := by
  rw [State.elementSees, if_pos (by simp [State.running, runs])]

theorem modEval_firstCandidate (s : State) (w : WindowIx) (e : Element) : s.modEval e (firstCandidate w) =
    if (s.eval e).last = none ∧ (s.eval e).cand = none then
      { s with evals := s.evals.set (elementIx e) { s.eval e with cand := some w } }
    else s := by
  unfold State.modEval firstCandidate State.eval
  split
  · rfl
  · simp

theorem evaluateFrom_idle {s : State} {e : Element} (idle : (s.eval e).cand = none) : ∀ n, State.evaluateFrom n e s = s
  | 0 => rfl
  | _ + 1 => by rw [State.evaluateFrom, idle]

theorem evaluateFrom_waits {s : State} {e : Element} {w : WindowIx} (cand : (s.eval e).cand = some w)
    (waits : s.evaluable e w = false) (n : Nat) : State.evaluateFrom (n + 1) e s = s := by
  rw [State.evaluateFrom, cand]
  simp [waits]

theorem evaluateFrom_takes {s : State} {e : Element} {w : WindowIx} (cand : (s.eval e).cand = some w)
    (ready : s.evaluable e w = true) (n : Nat) : State.evaluateFrom (n + 1) e s
      = State.evaluateFrom n e ((s.evaluate e w).modEval e fun _ => ⟨some w, some (w + 1), some s.now⟩) := by
  rw [State.evaluateFrom, cand]
  simp [ready]

theorem slotFor_cases (s : State) (r : Role) (w : WindowIx) :
    (∀ x, s.slotFor r w = some x → x.w = w ∧ ((s.role r).newest = some x ∨ (s.role r).previous = some x))
    ∧ (s.slotFor r w = none → ∀ x, ((s.role r).newest = some x ∨ (s.role r).previous = some x) → x.w ≠ w) := by
  unfold State.slotFor
  cases (s.role r).newest <;> cases (s.role r).previous <;> grind

theorem slotAhead_iff (s : State) (r : Role) (w : WindowIx) : s.slotAhead r w = true ↔
    ∃ x, ((s.role r).newest = some x ∨ (s.role r).previous = some x) ∧ ahead x.w w = true := by
  unfold State.slotAhead
  cases (s.role r).newest <;> cases (s.role r).previous <;> simp

theorem evaluable_iff (s : State) (e : Element) (w : WindowIx) : s.evaluable e w = true ↔
    (s.needed e ≠ [] ∧ ∀ r ∈ s.needed e, ∃ x, s.slotFor r w = some x)
    ∨ ∃ r ∈ s.needed e, ∃ x, ((s.role r).newest = some x ∨ (s.role r).previous = some x) ∧ ahead x.w w = true := by
  have some_ahead : (∃ r ∈ s.needed e, s.slotAhead r w = true) → s.needed e ≠ [] := fun ⟨r, mem, _⟩ => List.ne_nil_of_mem mem
  simp only [State.evaluable, Bool.and_eq_true, Bool.not_eq_true', List.isEmpty_eq_false_iff, Bool.or_eq_true, List.all_eq_true,
    List.any_eq_true, Option.isSome_iff_exists, ← slotAhead_iff]
  grind

theorem mem_selectedPhases (q : PhaseSet) (p : Phase) :
    p ∈ selectedPhases q ↔ (p = .A ∧ q.a = true) ∨ (p = .B ∧ q.b = true) ∨ (p = .C ∧ q.c = true) := by
  unfold selectedPhases
  cases p <;> simp

theorem mem_needed_voltage (s : State) (r : Role) : r ∈ s.needed .voltage ↔
    (r = .busV .A ∧ s.phases.a = true) ∨ (r = .busV .B ∧ s.phases.b = true) ∨ (r = .busV .C ∧ s.phases.c = true) := by
  simp only [State.needed, List.mem_map, mem_selectedPhases]
  grind

theorem mem_elementsOf (s : State) (r : Role) (e : Element) : e ∈ s.elementsOf r ↔ r ∈ s.needed e := by
  cases r with
  | busV p =>
    simp only [State.elementsOf, List.mem_append, List.mem_singleton, List.mem_ite_nil_right, List.mem_map]
    cases e with
    | voltage => simp [State.needed]
    | unbalance k => simp [State.needed, mem_allStages]
    | busHarmonic q => simp [State.needed, eq_comm]
    | stageHarmonic k => simp [State.needed]
  | stageI k => cases e <;> simp [State.elementsOf, State.needed, eq_comm]
  | neutralI k => cases e <;> simp [State.elementsOf, State.needed, eq_comm]

/-- Settles O30, by the cases of the test of R59. -/
theorem evaluationTakesEachWindowOnce : Obligations.EvaluationTakesEachWindowOnce := by
  refine ⟨fun s w e => ⟨fun config => elementSees_config config w e, fun runs => ?_⟩,
    fun s e n => ⟨rfl, fun idle => evaluateFrom_idle idle n⟩, evaluable_iff, slotFor_cases, fun s r => ⟨mem_needed_voltage s r,
      fun k => ?_, fun p => List.mem_singleton, fun k => List.mem_singleton, mem_elementsOf s r⟩,
    fun s e w n cand => ⟨fun waits => evaluateFrom_waits cand waits n, fun ready => ?_⟩, fun s w => ⟨rfl, fun _ => rfl, fun _ => rfl, fun _ => rfl⟩⟩
  · rw [elementSees_runs runs, modEval_firstCandidate]
  · simp [State.needed]
  · have kept : (s.evaluate e w).evals = s.evals := (SameInputs.evaluate s e w).evals
    have other (g : Element) : (s.evaluate e w).eval g = s.eval g := congrArg (·[elementIx g]) kept
    exact ⟨evaluateFrom_takes cand ready n, (s.evaluate e w).modEval_eval e fun _ => ⟨some w, some (w + 1), some s.now⟩,
      fun g ne => ((s.evaluate e w).modEval_eval_ne (fun _ => ⟨some w, some (w + 1), some s.now⟩) ne).trans (other g),
      onlyEvaluated_trans (evaluate_evaluated s e w) rfl⟩

end Sys2Proof.Machine
end

section
/-! The timers of intake, evaluation and capture (R28, R39 to R41, R59, R165, R169). -/

namespace Sys2Proof.Machine

theorem exec_event {s : State} (h : s.held = false) (f : State → State) :
    (Host.Outcome.next (s.live f) : Host.Outcome State Fault Refusal) = .next (f s) :=
  congrArg Host.Outcome.next (State.live_of_running h f)

/-! ### Source records -/

theorem source?_addr {s : State} {b : Byte} {x : Source} (known : s.source? b = some x) : x.addr = b := by
  have at_ := List.find?_some known
  exact of_decide_eq_true at_

theorem source?_of_modSource (s : State) (a b : Byte) (f : Source → Source) (keeps : ∀ x, (f x).addr = x.addr) :
    (s.modSource a f).source? b = (s.source? b).map fun x => if x.addr = a then f x else x := by
  refine List.find?_map.trans ?_
  have kept : ((fun x : Source => decide (x.addr = b)) ∘ fun x => if x.addr = a then f x else x) = fun x => decide (x.addr = b) := by
    funext x
    simp only [Function.comp_apply]
    split <;> simp [keeps]
  rw [kept]
  rfl

theorem source?_modSource_ne (s : State) {a b : Byte} (f : Source → Source) (keeps : ∀ x, (f x).addr = x.addr) (other : b ≠ a) :
    (s.modSource a f).source? b = s.source? b := by
  rw [source?_of_modSource s a b f keeps]
  cases found : s.source? b with
  | none => rfl
  | some x => exact congrArg some (if_neg fun same => other ((source?_addr found).symm.trans same))

theorem source?_modSource {s : State} {a : Byte} {x : Source} (f : Source → Source) (keeps : ∀ x, (f x).addr = x.addr)
    (known : s.source? a = some x) : (s.modSource a f).source? a = some (f x) := by
  rw [source?_of_modSource s a a f keeps, known]
  exact congrArg some (if_pos (source?_addr known))

/-! ### Closing windows -/

theorem closeWindow_none {s : State} {r : Role} (none : (s.role r).openWin = none) (atLast : Bool) :
    State.closeWindow atLast s r = s := by rw [State.closeWindow, none]

theorem closeWindow_some {s : State} {r : Role} {o : OpenWindow} (opened : (s.role r).openWin = some o) (atLast : Bool) :
    State.closeWindow atLast s r = (s.modRole r fun a => { a with openWin := none }).handOver r
      ⟨o.w, o.by_, atLast && o.pos.all (·.isSome), o.clipped, o.questionable, o.pos⟩ := by rw [State.closeWindow, opened]

theorem closeWindow_role_ne (atLast : Bool) (s : State) {r q : Role} (other : q ≠ r) :
    (State.closeWindow atLast s r).role q = s.role q := by
  cases opened : (s.role r).openWin with
  | none => rw [closeWindow_none opened]
  | some o => rw [closeWindow_some opened, handOver_role_ne _ _ other, State.modRole_role_ne _ _ other]

/-- The buffers of a role whose open window `o` was closed at `now`, its result in the newest slot. -/
structure RoleState.Closed (a : RoleState) (o : OpenWindow) (complete : Bool) (now : PartTime) : Prop where
  openWin : a.openWin = none
  handed : a.handed = some (o.w, now)
  newest : ∃ x, a.newest = some x ∧ x.w = o.w ∧ x.by_ = o.by_ ∧ x.complete = complete

theorem closeWindow_role {s : State} {r : Role} {o : OpenWindow} (opened : (s.role r).openWin = some o) (atLast : Bool) :
    ((State.closeWindow atLast s r).role r).Closed o (atLast && o.pos.all (·.isSome)) s.now := by
  rw [closeWindow_some opened, handOver_role, State.modRole_role]
  exact ⟨rfl, rfl, _, rfl, rfl, rfl, rfl⟩

theorem closeWindow_now (atLast : Bool) (s : State) (r : Role) : (State.closeWindow atLast s r).now = s.now := by
  rw [closeWindow_evaluated]

theorem foldl_closeWindow_closed (atLast : Bool) {r : Role} (l : List Role) : ∀ s : State, (s.role r).openWin = none →
    (l.foldl (State.closeWindow atLast) s).role r = s.role r := by
  induction l with
  | nil => exact fun _ _ => rfl
  | cons q l ih =>
    intro s closed
    have same : (State.closeWindow atLast s q).role r = s.role r := by
      by_cases own : r = q
      · rw [← own, closeWindow_none closed]
      · exact closeWindow_role_ne atLast s own
    exact (ih _ ((congrArg RoleState.openWin same).trans closed)).trans same

/-- Each open window of the listed roles is closed, whichever of them come before. -/
theorem foldl_closeWindow_opened (atLast : Bool) {r : Role} {o : OpenWindow} (l : List Role) : ∀ s : State, r ∈ l →
    (s.role r).openWin = some o →
    ((l.foldl (State.closeWindow atLast) s).role r).Closed o (atLast && o.pos.all (·.isSome)) s.now := by
  induction l with
  | nil => exact fun _ mem => absurd mem List.not_mem_nil
  | cons q l ih =>
    intro s mem opened
    rw [List.foldl_cons]
    by_cases own : r = q
    · subst own
      have closed := closeWindow_role opened atLast
      rw [foldl_closeWindow_closed atLast l _ closed.openWin]
      exact closed
    · have still := (congrArg RoleState.openWin (closeWindow_role_ne atLast s own)).trans opened
      rw [← closeWindow_now atLast s q]
      exact ih _ ((List.mem_cons.1 mem).resolve_left own) still

/-! ### The roles served from a source -/

theorem mem_mappedRoles (m : List MapEntry) (r : Role) : r ∈ mappedRoles m ↔ ∃ e ∈ m, e.role = some r := by
  have grows : ∀ l acc : List Role, r ∈ l.foldl (fun acc r => if r ∈ acc then acc else acc ++ [r]) acc ↔ r ∈ acc ∨ r ∈ l := by
    intro l
    induction l with
    | nil => simp
    | cons q l ih =>
      intro acc
      rw [List.foldl_cons, ih]
      split <;> simp <;> grind
  rw [mappedRoles, grows]
  simp

theorem servingEntry_mapped {m : List MapEntry} {r : Role} {b : ServedBy} {e : MapEntry} (serves : servingEntry m r b = some e) :
    e ∈ m ∧ e.role = some r := by
  have place : ∃ i : Nat, (entriesOf m r)[i]? = some e := by
    cases b with
    | primary => exact ⟨0, serves⟩
    | backup => exact ⟨1, serves⟩
    | none => cases serves
  obtain ⟨i, at_⟩ := place
  simpa [entriesOf] using List.mem_of_getElem? at_

theorem mem_servedFrom (s : State) (a : Byte) (r : Role) : r ∈ s.servedFrom a ↔
    ∃ o e, (s.role r).openWin = some o ∧ servingEntry s.map r o.by_ = some e ∧ e.source = a := by
  unfold State.servedFrom
  rw [List.mem_filter, mem_mappedRoles]
  cases (s.role r).openWin with
  | none => simp
  | some o =>
    constructor
    · rintro ⟨-, any⟩
      obtain ⟨e, serves, from_⟩ := (Option.any_eq_true _ _).1 any
      exact ⟨o, e, rfl, serves, of_decide_eq_true from_⟩
    · rintro ⟨_, e, ⟨rfl⟩, serves, from_⟩
      exact ⟨⟨e, servingEntry_mapped serves⟩, by simp [serves, from_]⟩

/-! ### A lost source (R28, R39) -/

/-- The record of a source that is lost. -/
def lostSource (x : Source) : Source := { x with status := .lost, streak := 0, last := none, window := none, qualified := 0 }

theorem loseSource_kept {s : State} {a : Byte} {x : Source} (hx : s.source? a = some x)
    (h : x.status = .lost ∨ (s.now - x.arrival).toNat < 8) : s.loseSource a = s := by
  rw [State.loseSource, hx]
  refine if_neg fun ⟨known, due⟩ => h.elim known fun early => ?_
  exact absurd due (not_le.2 early)

theorem loseSource_loses {s : State} {a : Byte} {x : Source} (hx : s.source? a = some x) (known : x.status ≠ .lost)
    (due : 8 ≤ (s.now - x.arrival).toNat) : s.loseSource a
      = (s.servedFrom a).foldl (State.closeWindow false) ((s.modSource a lostSource).notice (.source a .lost)) := by
  rw [State.loseSource, hx]
  dsimp only
  rw [if_pos ⟨known, due⟩]
  have same : ((s.modSource a lostSource).notice (.source a .lost)).servedFrom a = s.servedFrom a := by
    unfold State.servedFrom
    have map : ((s.modSource a lostSource).notice (.source a .lost)).map = s.map := by rw [notice_only]; rfl
    have roles : ((s.modSource a lostSource).notice (.source a .lost)).roles = s.roles := by rw [notice_only]; rfl
    simp only [State.role, map, roles]
  exact congrArg (List.foldl _ _) same

theorem loseSource_evaluated {s : State} {a : Byte} (u : State)
    (marked : u = (s.modSource a lostSource).notice (.source a .lost)) (l : List Role) :
    onlyEvaluated (s.modSource a lostSource) (l.foldl (State.closeWindow false) u) := by
  rw [marked]
  exact onlyEvaluated_trans (notice_evaluated _ _) (foldl_evaluated (closeWindow_evaluated false) l _)

/-! ### The capture store (R165) -/

theorem captureStoreTimeout_early {s : State} (early : ∀ t, s.cap.taken = some t → (s.now - t).toNat < 10000) :
    s.captureStoreTimeout = s := by
  refine if_neg ?_
  unfold State.captureStoreDue
  cases taken : s.cap.taken with
  | none => simp
  | some t =>
    have soon : elapsed s.now t < 10000 := early t taken
    dsimp only
    split <;> simp <;> omega

theorem captureStoreTimeout_due {s : State} {t : PartTime} (taken : s.cap.taken = some t)
    (due : if s.cap.store = [] then (s.now - t).toNat = 10000 else 10000 ≤ (s.now - t).toNat) : s.captureStoreTimeout =
      match s.cap.status with
      | .disarmed | .armed => { s with cap := { s.cap with store := [] } }
      | .recording => s.cutRecording
      | .held => s := by
  refine if_pos ?_
  unfold State.captureStoreDue
  rw [taken]
  dsimp only [elapsed]
  split at due
  · next empty => rw [if_pos empty]; exact decide_eq_true due
  · next full => rw [if_neg full]; exact decide_eq_true due

theorem captureStoreTimeout_empty {s : State} {t : PartTime} (taken : s.cap.taken = some t) (empty : s.cap.store = [])
    (off : (s.now - t).toNat ≠ 10000) : s.captureStoreTimeout = s := by
  refine if_neg ?_
  unfold State.captureStoreDue
  rw [taken]
  dsimp only
  rw [if_pos empty]
  exact fun due => off (of_decide_eq_true due)

/-- Settles O52: a lost source closes the windows it served, and each timeout acts by its equation. -/
theorem intakeTimersActWhenDue : Obligations.IntakeTimersActWhenDue := by
  intro s hh
  refine ⟨fun a none => ?_, fun a x hx => ⟨fun early => ?_, fun known due => ?_⟩, fun a => ?_, fun r => ?_, ?_, fun r => ?_, fun e => ?_, fun early => ?_, fun t ht empty => ?_, fun t ht full due => ?_⟩
  · refine (exec_event hh fun s => s.loseSource a).trans (congrArg Host.Outcome.next ?_)
    rw [State.loseSource, none]
  · exact (exec_event hh fun s => s.loseSource a).trans (congrArg Host.Outcome.next (loseSource_kept hx early))
  · set u := (s.modSource a lostSource).notice (.source a .lost) with hu
    set t := (s.servedFrom a).foldl (State.closeWindow false) u with ht
    have only : onlyEvaluated (s.modSource a lostSource) t := loseSource_evaluated u hu _
    have sources : t.sources = (s.modSource a lostSource).sources := by rw [only]
    have at_ (b : Byte) : t.source? b = (s.modSource a lostSource).source? b :=
      congrArg (List.find? fun x : Source => decide (x.addr = b)) sources
    refine ⟨t, (exec_event hh fun s => s.loseSource a).trans (congrArg Host.Outcome.next (loseSource_loses hx known due)),
      ⟨lostSource x, (at_ a).trans (source?_modSource lostSource (fun _ => rfl) hx), rfl, rfl, rfl⟩,
      fun b other => (at_ b).trans (source?_modSource_ne s lostSource (fun _ => rfl) other), ?_,
      fun r o e opened serves from_ => ?_, rfl⟩
    · rw [sources]
      exact only
    · have mem := (mem_servedFrom s a r).2 ⟨o, e, opened, serves, from_⟩
      have now : u.now = s.now := by rw [hu, notice_only]; rfl
      have role : u.role r = s.role r := by
        have roles : u.roles = s.roles := by rw [hu, notice_only]; rfl
        exact congrArg (·[roleIx r]) roles
      have closed := foldl_closeWindow_opened false _ u mem ((congrArg RoleState.openWin role).trans opened)
      exact ⟨closed.openWin, closed.handed.trans (by rw [now]), closed.newest⟩
  · exact ⟨List.filter_sublist, mem_servedFrom s a⟩
  · exact ⟨fun closed => closeWindow_none closed false, fun o opened => closeWindow_some opened false⟩
  · refine (exec_event hh fun s => s.yardTimeout).trans (congrArg Host.Outcome.next ?_)
    unfold State.yardTimeout
    cases s.yardIx <;> rfl
  · refine (exec_event hh fun s => s.handedTimeout r).trans (congrArg Host.Outcome.next ?_)
    unfold State.handedTimeout
    cases (s.role r).handed <;> rfl
  · refine (exec_event hh fun s => s.evaluationTimeout e).trans (congrArg Host.Outcome.next ?_)
    unfold State.evaluationTimeout
    cases (s.eval e).since with
    | none => rfl
    | some t =>
      have due : (s.running && decide (10000 ≤ elapsed s.now t)) = true ↔ s.mode ≠ .config ∧ 10000 ≤ (s.now - t).toNat := by
        simp only [State.running, bne_iff_ne, Bool.and_eq_true, decide_eq_true_eq]
        rfl
      exact if_congr due rfl rfl
  · exact (exec_event hh State.captureStoreTimeout).trans (congrArg Host.Outcome.next (captureStoreTimeout_early early))
  · refine ⟨fun off => (exec_event hh State.captureStoreTimeout).trans
      (congrArg Host.Outcome.next (captureStoreTimeout_empty ht empty off)), fun due recording => ?_⟩
    refine (exec_event hh State.captureStoreTimeout).trans (congrArg Host.Outcome.next ?_)
    rw [captureStoreTimeout_due ht (by rw [if_pos empty]; exact due), recording]
    exact if_pos empty
  · have at_ := (exec_event hh State.captureStoreTimeout).trans (congrArg Host.Outcome.next
      (captureStoreTimeout_due ht (by rw [if_neg full]; exact due)))
    refine ⟨fun idle => ?_, fun recording => ?_, fun held => ?_⟩
    · rcases idle with status | status <;> rw [status] at at_ <;> exact at_
    · rw [recording] at at_
      have cut : s.cutRecording = s.holdRecord true := if_neg full
      dsimp only at at_
      rw [cut] at at_
      have only := holdRecord_only s true
      exact ⟨⟨_, at_, by rw [only], only⟩, fun h header => at_.trans (congrArg Host.Outcome.next (holdRecord_sends header true))⟩
    · rw [held] at at_
      exact at_

end Sys2Proof.Machine
end

section
/-! The candidates of voltage control (R115, R116). -/

namespace Sys2Proof.Machine

/-! ### The removal candidate (R115) -/

/-- The first element of a list with a property, with what stands before it. -/
theorem find?_eq_some_split {α : Type} {p : α → Bool} {l : List α} {a : α} (h : l.find? p = some a) :
    p a = true ∧ ∃ before after, l = before ++ a :: after ∧ ∀ b ∈ before, p b = false := by
  obtain ⟨hp, before, after, e, none⟩ := List.find?_eq_some_iff_append.1 h
  exact ⟨hp, before, after, e, fun b hb => by simpa using none b hb⟩

theorem removable_iff (s : State) (k : StageIx) : s.removable k = true ↔ (s.stage k).state = .closed
    ∧ (s.stage k).blocked = false ∧ (s.stage k).silent = false ∧ s.hasEntry k = false := by
  simp [State.removable, and_assoc]

theorem ailing_iff (s : State) (k : StageIx) :
    s.ailing k = true ↔ (s.stage k).unbalanceAlarm = true ∨ (s.stage k).overload = true := by simp [State.ailing]

/-- The candidate is the first ailing stage of those that qualify, and the first of all where none ails. -/
theorem removalCandidate_eq (s : State) : s.removalCandidate =
    (s.inService.find? fun k => s.removable k && s.ailing k).or (s.inService.find? s.removable) := by
  unfold State.removalCandidate
  dsimp only
  rw [List.find?_filter, List.head?_filter]
  simp only [Bool.decide_and, Bool.decide_eq_true]
  generalize s.inService.find? (fun k => s.removable k && s.ailing k) = ailing
  cases ailing <;> rfl

/-! ### The insertion candidate (R116) -/

theorem insertable_iff (s : State) (k : StageIx) : s.insertable k = true ↔ (s.stage k).state = .openReady
    ∧ (s.stage k).blocked = false ∧ (s.stage k).silent = false ∧ (s.stage k).lockoutPending = false ∧ s.hasEntry k = false
    ∧ s.currentlyServed (.neutralI k) = true ∧ (s.stage k).bar = false ∧ ∀ h ∈ (s.stage k).cfg.orders, s.busAlarmOf h = false := by
  simp [State.insertable, State.resonanceBar, and_assoc]

/-- Stage `j` comes before stage `k` by rank, operations count and index. -/
def State.comesBefore (s : State) (j k : StageIx) : Prop :=
  (s.stage j).cfg.rank < (s.stage k).cfg.rank ∨ ((s.stage j).cfg.rank = (s.stage k).cfg.rank
    ∧ ((s.stage j).cfg.operations < (s.stage k).cfg.operations
      ∨ ((s.stage j).cfg.operations = (s.stage k).cfg.operations ∧ j < k)))

theorem comesBefore_trans {s : State} {i j k : StageIx} (h : s.comesBefore i j) (h' : s.comesBefore j k) : s.comesBefore i k := by
  unfold State.comesBefore at *
  rw [Fin.lt_def] at *
  omega

/-- The better of a candidate and a later index is one of the two, and comes before the other. -/
theorem better_some (s : State) {j k : StageIx} (later : j < k) :
    (s.better (some j) k = some k ∧ s.comesBefore k j) ∨ (s.better (some j) k = some j ∧ s.comesBefore j k) := by
  unfold State.better State.precedes State.comesBefore
  simp only [Fin.lt_def] at *
  split
  · next h => exact .inl ⟨rfl, by simp only [decide_eq_true_eq] at h; omega⟩
  · next h => exact .inr ⟨rfl, by simp only [decide_eq_true_eq] at h; omega⟩

/-- Among ascending indices behind a candidate, the fold finds the first in the order of R116. -/
theorem foldl_better (s : State) : ∀ (l : List StageIx) (j : StageIx), (j :: l).Pairwise (· < ·) →
    ∃ k ∈ j :: l, l.foldl s.better (some j) = some k ∧ ∀ i ∈ j :: l, i ≠ k → s.comesBefore k i := by
  intro l
  induction l with
  | nil => exact fun j _ => ⟨j, List.mem_singleton_self j, rfl, fun i mem ne => absurd (List.mem_singleton.1 mem) ne⟩
  | cons x l ih =>
    intro j ascending
    obtain ⟨above, rest⟩ := List.pairwise_cons.1 ascending
    have without : (j :: l).Pairwise (· < ·) := ascending.sublist (by simp)
    obtain ⟨best, first⟩ | ⟨best, first⟩ := better_some s (above x List.mem_cons_self)
    · obtain ⟨k, mem, found, order⟩ := ih x rest
      refine ⟨k, List.mem_cons_of_mem j mem, by rw [List.foldl_cons, best, found], fun i among ne => ?_⟩
      obtain rfl | among := List.mem_cons.1 among
      · by_cases same : x = k
        · exact same ▸ first
        · exact comesBefore_trans (order x List.mem_cons_self same) first
      · exact order i among ne
    · obtain ⟨k, mem, found, order⟩ := ih j without
      refine ⟨k, by grind, by rw [List.foldl_cons, best, found], fun i among ne => ?_⟩
      by_cases new : i = x
      · subst new
        by_cases same : j = k
        · exact same ▸ first
        · exact comesBefore_trans (order j List.mem_cons_self same) first
      · exact order i (by grind) ne

theorem insertionCandidate_cases (s : State) (free : s.vc.latch = false) :
    (s.insertionCandidate = none ∧ ∀ k, s.insertable k = false)
    ∨ ∃ k, s.insertionCandidate = some k ∧ s.insertable k = true ∧ ∀ j, j ≠ k → s.insertable j = true → s.comesBefore k j := by
  have ascending : (allStages.filter s.insertable).Pairwise (· < ·) := (List.pairwise_lt_finRange 24).filter _
  have mem (k : StageIx) : k ∈ allStages.filter s.insertable ↔ s.insertable k = true := by simp [mem_allStages]
  unfold State.insertionCandidate
  rw [free, if_neg (by simp)]
  cases stages : allStages.filter s.insertable with
  | nil => exact .inl ⟨rfl, fun k => by simpa [stages] using mem k⟩
  | cons x l =>
    rw [stages] at ascending mem
    obtain ⟨k, among, found, order⟩ := foldl_better s l x ascending
    exact .inr ⟨k, found, (mem k).1 among, fun j ne comes => order j ((mem j).2 comes) ne⟩

/-- Settles O47, by the first qualifying entry of each list. -/
theorem candidatesAreFirstInOrder : Obligations.CandidatesAreFirstInOrder := by
  intro s goes ails comes
  have go (k : StageIx) : s.removable k = true ↔ goes k := removable_iff s k
  have ail (k : StageIx) : s.ailing k = true ↔ ails k := ailing_iff s k
  have come (k : StageIx) : s.insertable k = true ↔ comes k := insertable_iff s k
  refine ⟨?_, fun k chosen => ?_, ?_, fun k chosen => ?_⟩
  · simp only [removalCandidate_eq, Option.or_eq_none_iff, List.find?_eq_none, Bool.and_eq_true, go]
    exact ⟨fun h => h.2, fun h => ⟨fun k mem both => h k mem both.1, h⟩⟩
  · rw [removalCandidate_eq, Option.or_eq_some_iff] at chosen
    obtain first | ⟨none, first⟩ := chosen
    · obtain ⟨both, before, after, e, earlier⟩ := find?_eq_some_split first
      rw [Bool.and_eq_true, go, ail] at both
      simp only [Bool.eq_false_iff, ne_eq, Bool.and_eq_true, go, ail] at earlier
      exact ⟨before, after, e, both.1, fun _ j mem goes' ails' => earlier j mem ⟨goes', ails'⟩,
        fun well => absurd both.2 well⟩
    · obtain ⟨goes', before, after, e, earlier⟩ := find?_eq_some_split first
      simp only [List.find?_eq_none, Bool.and_eq_true, go, ail, e, List.mem_append, List.mem_cons] at none
      simp only [Bool.eq_false_iff, ne_eq, go] at earlier
      rw [go] at goes'
      exact ⟨before, after, e, goes', fun ails' => absurd ⟨goes', ails'⟩ (none k (.inr (.inl rfl))), fun _ => ⟨earlier,
        fun j mem goes'' ails'' => none j (.inr (.inr mem)) ⟨goes'', ails''⟩⟩⟩
  · cases latch : s.vc.latch with
    | true => simp [State.insertionCandidate, latch]
    | false =>
      obtain ⟨none, idle⟩ | ⟨k, found, insertable, -⟩ := insertionCandidate_cases s latch
      · exact iff_of_true none (.inr fun k comes' => Bool.eq_false_iff.1 (idle k) ((come k).2 comes'))
      · rw [found]
        exact iff_of_false nofun fun h => (h.resolve_left nofun) k ((come k).1 insertable)
  · cases latch : s.vc.latch with
    | true => simp [State.insertionCandidate, latch] at chosen
    | false =>
      obtain ⟨none, -⟩ | ⟨j, found, insertable, order⟩ := insertionCandidate_cases s latch
      · rw [none] at chosen
        cases chosen
      · obtain rfl : j = k := Option.some.inj (found.symm.trans chosen)
        exact ⟨rfl, (come j).1 insertable, fun i ne comes' => order i ne ((come i).2 comes')⟩

end Sys2Proof.Machine
end

section
/-! Window assembly (R35 to R41) and the intake of windows by capture (R164 to R168). -/

namespace Sys2Proof.Machine

/-! ### A frame for an open window (R37 to R39) -/

theorem closesWindow_iff (c : SampleCounter) : closesWindow c = true ↔ c.toNat % 32 = 31 := decide_eq_true_iff

theorem ahead_self (w : WindowIx) : ahead w w = false := by simp [ahead]

theorem modRole_eq (s : State) (r : Role) (f : RoleState → RoleState) :
    s.modRole r f = { s with roles := s.roles.set (roleIx r) (f (s.role r)) } := rfl

theorem storeFrame_inner {s : State} {r : Role} {o : OpenWindow} (opened : (s.role r).openWin = some o) (e : MapEntry)
    {f : SampleFrame} (inner : f.counter.toNat % 32 ≠ 31) :
    s.storeFrame r e f = s.modRole r fun a => { a with openWin := some (storeSample e f o) } := by
  have stored : s.storeFrame r e f = s.modRole r fun a => { a with openWin := a.openWin.map (storeSample e f) } :=
    if_neg fun last => inner ((closesWindow_iff _).1 last)
  rw [stored, modRole_eq, modRole_eq, opened]
  rfl

theorem storeFrame_last {s : State} {r : Role} {o : OpenWindow} (opened : (s.role r).openWin = some o) (e : MapEntry)
    {f : SampleFrame} (last : f.counter.toNat % 32 = 31) :
    s.storeFrame r e f = (s.modRole r fun a => { a with openWin := none }).handOver r
      ⟨(storeSample e f o).w, (storeSample e f o).by_, (storeSample e f o).pos.all (·.isSome), (storeSample e f o).clipped,
        (storeSample e f o).questionable, (storeSample e f o).pos⟩ := by
  have stored : s.storeFrame r e f
      = State.closeWindow true (s.modRole r fun a => { a with openWin := a.openWin.map (storeSample e f) }) r :=
    if_pos ((closesWindow_iff _).2 last)
  have opened' : ((s.modRole r fun a => { a with openWin := a.openWin.map (storeSample e f) }).role r).openWin
      = some (storeSample e f o) := by rw [State.modRole_role, opened]; rfl
  rw [stored, closeWindow_some opened', State.modRole_modRole, Bool.true_and]

theorem storeSample_w (e : MapEntry) (f : SampleFrame) (o : OpenWindow) : (storeSample e f o).w = o.w := by
  unfold storeSample
  dsimp only
  split <;> rfl

theorem storeSample_by (e : MapEntry) (f : SampleFrame) (o : OpenWindow) : (storeSample e f o).by_ = o.by_ := by
  unfold storeSample
  dsimp only
  split <;> rfl

theorem roleFrame_closed {s : State} {r : Role} (closed : (s.role r).openWin = none) (src : Byte) (f : SampleFrame) :
    State.roleFrame src f s r = s.openByFrame r src f := by rw [State.roleFrame, closed]

theorem roleFrame_open {s : State} {r : Role} {o : OpenWindow} {e : MapEntry} (opened : (s.role r).openWin = some o)
    (serves : servingEntry s.map r o.by_ = some e) (src : Byte) (f : SampleFrame) : State.roleFrame src f s r =
      if e.source ≠ src then s
      else if windowOf f.counter = o.w then s.storeFrame r e f
      else if ahead (windowOf f.counter) o.w then (State.closeWindow false s r).openByFrame r src f
      else s := by
  rw [State.roleFrame, opened]
  dsimp only
  rw [serves]

/-! ### The opening of a window (R36, R41) -/

theorem openByFrame_past {s : State} {r : Role} {h : WindowIx} {t : PartTime} (handed : (s.role r).handed = some (h, t))
    {f : SampleFrame} (past : ahead (windowOf f.counter) h = false) (src : Byte) : s.openByFrame r src f = s := by
  rw [State.openByFrame, handed]
  simp [past]

/-- The opening itself, and then the frame's own sample where it comes from the serving entry. -/
theorem openByFrame_opens {s : State} {r : Role} {f : SampleFrame}
    (may : ∀ h t, (s.role r).handed = some (h, t) → ahead (windowOf f.counter) h = true) (src : Byte) :
    s.openByFrame r src f = match ((s.openRoleWindow r (windowOf f.counter)).role r).openWin with
      | none => s.openRoleWindow r (windowOf f.counter)
      | some o => match servingEntry (s.openRoleWindow r (windowOf f.counter)).map r o.by_ with
        | some e => if e.source = src then (s.openRoleWindow r (windowOf f.counter)).storeFrame r e f
          else s.openRoleWindow r (windowOf f.counter)
        | none => s.openRoleWindow r (windowOf f.counter) := by
  unfold State.openByFrame
  cases handed : (s.role r).handed with
  | none => rfl
  | some x => 
    dsimp only
    rw [may x.1 x.2 handed]
    rfl

theorem openRoleWindow_unserved {s : State} {r : Role} (unserved : s.chooseServing r = .none) (w : WindowIx) :
    s.openRoleWindow r w = s.handOver r ⟨w, .none, false, false, false, emptyPositions⟩ := by
  rw [State.openRoleWindow, unserved]

theorem openRoleWindow_served {s : State} {r : Role} {b : ServedBy} (served : s.chooseServing r = b) (some_ : b ≠ .none)
    (w : WindowIx) : s.openRoleWindow r w = s.modRole r fun a => { a with openWin := some ⟨w, b, emptyPositions, false, false⟩ } := by
  rw [State.openRoleWindow, served]
  cases b with
  | none => exact absurd rfl some_
  | primary => rfl
  | backup => rfl

theorem roleFrame_unserved {s : State} {r : Role} (closed : (s.role r).openWin = none) {f : SampleFrame}
    (may : ∀ h t, (s.role r).handed = some (h, t) → ahead (windowOf f.counter) h = true) (unserved : s.chooseServing r = .none)
    (src : Byte) : State.roleFrame src f s r = s.handOver r ⟨windowOf f.counter, .none, false, false, false, emptyPositions⟩ := by
  have still : ((s.handOver r ⟨windowOf f.counter, .none, false, false, false, emptyPositions⟩).role r).openWin = none := by
    rw [handOver_role]; exact closed
  rw [roleFrame_closed closed, openByFrame_opens may, openRoleWindow_unserved unserved, still]

theorem roleFrame_served {s : State} {r : Role} (closed : (s.role r).openWin = none) {f : SampleFrame}
    (may : ∀ h t, (s.role r).handed = some (h, t) → ahead (windowOf f.counter) h = true) {b : ServedBy} {e : MapEntry}
    (served : s.chooseServing r = b) (some_ : b ≠ .none) (serves : servingEntry s.map r b = some e) (src : Byte) {u : State}
    (opened : u = s.modRole r fun a => { a with openWin := some ⟨windowOf f.counter, b, emptyPositions, false, false⟩ }) :
    State.roleFrame src f s r = if e.source = src then State.roleFrame src f u r else u := by
  have window : (u.role r).openWin = some ⟨windowOf f.counter, b, emptyPositions, false, false⟩ := by
    rw [opened, State.modRole_role]
  have serves' : servingEntry u.map r b = some e := by rw [opened]; exact serves
  rw [roleFrame_closed closed, openByFrame_opens may, openRoleWindow_served served some_, ← opened, window]
  dsimp only
  rw [serves']
  by_cases own : e.source = src
  · rw [if_pos own, roleFrame_open window serves', if_neg (not_not.2 own), if_pos rfl]
    exact if_pos own
  · rw [if_neg own]
    exact if_neg own

theorem chooseServing_primary (s : State) (r : Role) : s.chooseServing r = .primary ↔
    ∃ e, primaryOf s.map r = some e ∧ s.sourceHealthy e.source = true := by
  unfold State.chooseServing
  rw [← Option.any_eq_true]
  split
  · next h => simp [h]
  · next h => split <;> simp [h]

theorem chooseServing_backup (s : State) (r : Role) : s.chooseServing r = .backup ↔
    (∀ e, primaryOf s.map r = some e → s.sourceHealthy e.source = false)
    ∧ ∃ e, backupOf s.map r = some e ∧ s.sourceHealthy e.source = true := by
  have unhealthy : (∀ e, primaryOf s.map r = some e → s.sourceHealthy e.source = false) ↔
      ¬ (primaryOf s.map r).any (fun e => s.sourceHealthy e.source) = true := by
    cases primaryOf s.map r <;> simp
  unfold State.chooseServing
  rw [← Option.any_eq_true, unhealthy]
  split
  · next h => simp [h]
  · next h => split <;> simp_all

/-! ### The yard window index (R40) -/

theorem yardFrame_kept {s : State} {src : Byte} {w : WindowIx}
    (kept : s.sourceHealthy src = false ∨ ∃ y t, s.yardIx = some (y, t) ∧ ahead w y = false) : s.yardFrame src w = s := by
  refine if_neg ?_
  obtain ill | ⟨y, t, at_, behind⟩ := kept
  · simp [ill]
  · simp [at_, behind]

theorem yardFrame_moves {s : State} {src : Byte} {w : WindowIx} (healthy : s.sourceHealthy src = true)
    (moves : ∀ y t, s.yardIx = some (y, t) → ahead w y = true) : s.yardFrame src w
      = (mappedRoles s.map).foldl (State.examineRole w) { s with yardIx := some (w, s.now) } := by
  refine if_pos ?_
  cases at_ : s.yardIx with
  | none => simp [healthy]
  | some x => simp [healthy, moves x.1 x.2 at_]

theorem examined_iff (a : RoleState) (y : WindowIx) : examined a y = true ↔
    a.openWin = none ∧ ∀ h t, a.handed = some (h, t) → h ≠ y - 1 ∧ ahead h (y - 1) = false := by
  unfold examined
  cases a.handed with
  | none => simp
  | some x =>
    obtain ⟨h, t⟩ := x
    simp only [Bool.and_eq_true, Option.isNone_iff_eq_none, bne_iff_ne, Bool.not_eq_true', Option.some.injEq, Prod.mk.injEq]
    exact and_congr_right fun _ => ⟨fun past h' t' same => same.1 ▸ past, fun past => past h t ⟨rfl, rfl⟩⟩

theorem emptyPositions_eq : emptyPositions = List.replicate 32 none := rfl

/-- What a sample stores, by the sample of its entry. -/
theorem storeSample_eq {e : MapEntry} {f : SampleFrame} {o x : OpenWindow}
    (none_ : entrySample e f = none → x = { o with pos := o.pos.set (f.counter.toNat % 32) none })
    (some_ : ∀ v clip, entrySample e f = some (v, clip) → x = { o with
      pos := o.pos.set (f.counter.toNat % 32) (some v)
      clipped := o.clipped || clip
      questionable := o.questionable || f.quality == .questionable }) : storeSample e f o = x := by
  unfold storeSample
  cases sample : entrySample e f with
  | none => exact (none_ sample).symm
  | some v => exact (some_ v.1 v.2 sample).symm

/-! ### The intake of windows by capture (R165, R168) -/

/-- Capture once it has taken a window in now, with this store. -/
def CaptureState.tookIn (c : CaptureState) (now : PartTime) (store : List CaptureWindow) : CaptureState :=
  { c with taken := some now, store := store }

theorem captureTake_left {s : State} {r : Role} {c : ClosedWindow}
    (left : ¬ (s.cap.status ≠ .held ∧ ∃ ch ∈ s.channels, ch.role = r)) : s.captureTake r c = s := by
  refine if_pos ?_
  simp only [Bool.or_eq_true, decide_eq_true_eq, Bool.not_eq_true', List.any_eq_false]
  grind

theorem captureTake_taken {s : State} {r : Role} (c : ClosedWindow)
    (takes : s.cap.status ≠ .held ∧ ∃ ch ∈ s.channels, ch.role = r) :
    s.captureTake r c = State.storeWindow { s with cap := s.cap.tookIn s.now s.cap.store } r c := by
  refine if_neg ?_
  simp only [Bool.or_eq_true, decide_eq_true_eq, Bool.not_eq_true', List.any_eq_false]
  grind

/-- The recording with this store is complete by its last window, of index `w`. -/
def CaptureState.completed (c : CaptureState) (store : List CaptureWindow) (w : WindowIx) : Prop :=
  c.status = .recording ∧ store.length = 16 ∧ ∃ x, store.getLast? = some x ∧ x.w = w ∧ ∀ p ∈ x.pieces, p.received = true

theorem lastWindowWhole_iff (s : State) (w : WindowIx) : s.lastWindowWhole w = true ↔ s.cap.completed s.cap.store w := by
  unfold State.lastWindowWhole CaptureState.completed
  cases s.cap.store.getLast? <;> simp [and_assoc]

/-- What a handover leaves of a recording that it completes, and of capture where it completes none (R168). -/
theorem completes {s t : State} {kept : CaptureState} {done : Prop} (stays : ¬ done → t = { s with cap := kept })
    (holds : done → t = State.holdRecord { s with cap := kept } false) :
    (¬ done → t = { s with cap := kept })
    ∧ (done → t.cap = { kept with status := .held, cutShort := false }
      ∧ onlyNoticed { s with cap := { kept with status := .held, cutShort := false } } t
      ∧ ∀ h, kept.header = some h → t = State.notice { s with cap := { kept with status := .held, cutShort := false } }
          (.captureReady h kept.store.length false)) := by
  refine ⟨stays, fun yes => ?_⟩
  rw [holds yes]
  have only := holdRecord_only { s with cap := kept } false
  exact ⟨by rw [only], only, fun h header => holdRecord_sends (s := { s with cap := kept }) header false⟩

theorem completeIfWhole_stays {s : State} {w : WindowIx} (no : ¬ s.cap.completed s.cap.store w) : s.completeIfWhole w = s :=
  if_neg fun whole => no ((lastWindowWhole_iff s w).1 whole)

theorem completeIfWhole_holds {s : State} {w : WindowIx} (yes : s.cap.completed s.cap.store w) :
    s.completeIfWhole w = s.holdRecord false := if_pos ((lastWindowWhole_iff s w).2 yes)

theorem storeWindow_completes {s : State} {r : Role} {c : ClosedWindow} (joins : ∃ x, s.cap.store.getLast? = some x ∧ ahead c.w x.w = true)
    (recording : s.cap.status = .recording) (full : 16 ≤ s.cap.store.length) : s.storeWindow r c = s.holdRecord false := by
  obtain ⟨x, last, later⟩ := joins
  rw [State.storeWindow, last]
  simp [later, recording, full]

theorem storeWindow_opens {s : State} {r : Role} {c : ClosedWindow}
    (joins : s.cap.store.getLast? = none ∨ ∃ x, s.cap.store.getLast? = some x ∧ ahead c.w x.w = true)
    (room : s.cap.status = .recording → s.cap.store.length < 16) :
    s.storeWindow r c = (s.openCaptureWindow r c).completeIfWhole c.w := by
  obtain empty | ⟨x, last, later⟩ := joins
  · rw [State.storeWindow, empty]
  · rw [State.storeWindow, last]
    dsimp only
    rw [if_pos later, if_neg]
    simpa using room

theorem storeWindow_fills {s : State} {r : Role} {c : ClosedWindow}
    (joins : ¬ (s.cap.store.getLast? = none ∨ ∃ x, s.cap.store.getLast? = some x ∧ ahead c.w x.w = true))
    (stored : ∃ x ∈ s.cap.store, x.w = c.w) : s.storeWindow r c = (s.fillCaptureWindow r c).completeIfWhole c.w := by
  unfold State.storeWindow
  cases last : s.cap.store.getLast? with
  | none => exact absurd (.inl last) joins
  | some x =>
    dsimp only
    rw [if_neg fun later => joins (.inr ⟨x, last, later⟩), if_pos (by simpa using stored)]

theorem storeWindow_behind {s : State} {r : Role} {c : ClosedWindow}
    (joins : ¬ (s.cap.store.getLast? = none ∨ ∃ x, s.cap.store.getLast? = some x ∧ ahead c.w x.w = true))
    (absent : ∀ x ∈ s.cap.store, x.w ≠ c.w) : s.storeWindow r c = s := by
  unfold State.storeWindow
  cases last : s.cap.store.getLast? with
  | none => exact absurd (.inl last) joins
  | some x =>
    dsimp only
    rw [if_neg fun later => joins (.inr ⟨x, last, later⟩), if_neg (by simpa using absent)]

theorem fillPieces_unfilled (ch : List Channel) (r : Role) (c : ClosedWindow) :
    fillPieces ch r c (ch.map fun _ => unfilledPiece) = ch.map fun x => if x.role = r then filledPiece c else unfilledPiece := by
  unfold fillPieces
  induction ch with
  | nil => rfl
  | cons x l ih => exact congrArg (_ :: ·) ih

/-- The capture window that a window of role `r` opens, with the pieces of that role filled (R164). -/
def State.newWindow (s : State) (r : Role) (c : ClosedWindow) : CaptureWindow :=
  ⟨c.w, s.channels.map fun ch => if ch.role = r then filledPiece c else unfilledPiece⟩

theorem openCaptureWindow_recording {s : State} (recording : s.cap.status = .recording) (r : Role) (c : ClosedWindow) :
    s.openCaptureWindow r c = { s with cap := { s.cap with store := s.cap.store ++ [s.newWindow r c] } } := by
  unfold State.openCaptureWindow State.newWindow
  dsimp only
  rw [if_pos recording, fillPieces_unfilled]

theorem openCaptureWindow_ring {s : State} (idle : s.cap.status ≠ .recording) (r : Role) (c : ClosedWindow) :
    s.openCaptureWindow r c = { s with cap := { s.cap with
      store := (s.cap.store ++ [s.newWindow r c]).drop ((s.cap.store ++ [s.newWindow r c]).length - (s.cap.preCount + 1)) } } := by
  unfold State.openCaptureWindow State.newWindow
  dsimp only
  rw [if_neg idle, fillPieces_unfilled]

/-- Settles O11, by the cases of a frame for a role, of the yard window index, and of the capture store. -/
theorem windowsAreAssembledAndCaptured : Obligations.WindowsAreAssembledAndCaptured := by
  refine ⟨fun s src f r => ?_, fun s src w => ⟨yardFrame_kept, yardFrame_moves, fun r => ?_⟩, fun s r c => ?_⟩
  · intro w n a emptied
    refine ⟨fun o e opened serves => ⟨fun other => ?_, fun own ne behind => ?_, fun own same => ?_, fun own later => ?_⟩,
      fun closed => ⟨fun h t handed past => ?_, fun may => ⟨fun unserved => ?_, fun b e some_ served serves => ?_⟩⟩,
      chooseServing_primary s r, chooseServing_backup s r⟩
    · rw [roleFrame_open opened serves, if_pos other]
    · rw [roleFrame_open opened serves, if_neg (not_not.2 own), if_neg ne]
      exact if_neg (by simpa using behind)
    · intro x
      have stored : storeSample e f o = x := by
        refine storeSample_eq (fun missing => ?_) fun v clip sample => ?_
        · simp only [x, missing]; rfl
        · simp only [x, sample]; rfl
      have frame : State.roleFrame src f s r = s.storeFrame r e f := by
        rw [roleFrame_open opened serves, if_neg (not_not.2 own), if_pos same]
      refine ⟨fun inner => ?_, fun last => ?_⟩
      · rw [frame, storeFrame_inner opened e inner, stored]
        rfl
      · rw [frame, storeFrame_last opened e last, storeSample_w, storeSample_by, stored]
        rfl
    · have ne : windowOf f.counter ≠ o.w := fun same => by simp [w, same, ahead_self] at later
      have closes := closeWindow_some opened false
      rw [roleFrame_open opened serves, if_neg (not_not.2 own), if_neg ne, if_pos later, closes]
      refine (roleFrame_closed ?_ src f).symm
      rw [handOver_role, State.modRole_role]
      rfl
    · rw [roleFrame_closed closed, openByFrame_past handed past]
    · exact roleFrame_unserved closed may unserved src
    · exact roleFrame_served closed may served some_ serves src rfl
  · intro a
    refine ⟨fun kept => ?_, fun closed past => ?_⟩
    · refine if_neg fun ex => ?_
      obtain ⟨closed, past⟩ := (examined_iff _ _).1 ex
      obtain opened | ⟨h, t, handed, now⟩ := kept
      · exact opened closed
      · have := past h t handed
        simp_all
    · have ex : State.examineRole w s r = s.openRoleWindow r (w - 1) := if_pos ((examined_iff _ _).2 ⟨closed, past⟩)
      rw [ex, State.openRoleWindow]
      cases s.chooseServing r <;> rfl
  · intro t filled front takes joins completed becomes
    let u : State := { s with cap := s.cap.tookIn s.now s.cap.store }
    have still (h : takes) (joins' : ¬ joins) (absent : ∀ x ∈ s.cap.store, x.w ≠ c.w) : t = u :=
      (captureTake_taken c h).trans (storeWindow_behind joins' absent)
    have ends (store : List CaptureWindow) (h : t = State.completeIfWhole { s with cap := s.cap.tookIn s.now store } c.w) :
        becomes store (completed store c.w) :=
      completes (fun no => h.trans (completeIfWhole_stays no)) fun yes => h.trans (completeIfWhole_holds yes)
    refine ⟨captureTake_left, fun h joins' recording full => ?_, fun h joins' room => ⟨fun recording => ?_, fun idle => ?_⟩,
      fun h joins' stored => ?_, fun h joins' absent => completes (fun _ => still h joins' absent) nofun, rfl, rfl⟩
    · have later : ∃ x, front = some x ∧ ahead c.w x.w = true := joins'.resolve_left fun none => by
        rw [List.getLast?_eq_none_iff.1 none] at full
        cases full
      exact completes (fun no => absurd trivial no) fun _ =>
        (captureTake_taken c h).trans (storeWindow_completes later recording full)
    · refine ends _ ((captureTake_taken c h).trans ((storeWindow_opens (s := u) joins' room).trans ?_))
      exact congrArg (State.completeIfWhole · c.w) (openCaptureWindow_recording (s := u) recording r c)
    · refine completes (fun _ => (captureTake_taken c h).trans ((storeWindow_opens (s := u) joins' room).trans ?_)) nofun
      rw [openCaptureWindow_ring (s := u) idle r c]
      exact completeIfWhole_stays fun whole => idle whole.1
    · exact ends _ ((captureTake_taken c h).trans (storeWindow_fills joins' stored))

end Sys2Proof.Machine
end

section
/-! SAMPLE frames by the ordering test, and the tracking of a source (R20, R27 to R31). -/

namespace Sys2Proof.Machine

/-! ### The frame (R20) -/

theorem readSample_malformed {bs : List Byte} (bad : byteAt bs 3 = 0 ∨ 16 < (byteAt bs 3).toNat
    ∨ bs.length ≠ 4 + 2 * (byteAt bs 3).toNat) : readSample bs = none := by
  refine if_neg fun ⟨low, high, size⟩ => ?_
  obtain zero | large | other := bad
  · rw [zero] at low
    cases low
  · omega
  · exact other size

theorem readSample_well {bs : List Byte} (low : 1 ≤ (byteAt bs 3).toNat) (high : (byteAt bs 3).toNat ≤ 16)
    (size : bs.length = 4 + 2 * (byteAt bs 3).toNat) : readSample bs
      = some ⟨wordAt bs 0, qualityOf (byteAt bs 2), slotValuesOf bs (byteAt bs 3).toNat⟩ := if_pos ⟨low, high, size⟩

theorem acceptable_iff (last : Option SampleCounter) (c : SampleCounter) : acceptable last c = true ↔
    ∀ l, last = some l → 1 ≤ (c - l).toNat ∧ (c - l).toNat ≤ 32767 := by
  cases last <;> simp [acceptable]

theorem source?_eq_none {s : State} {a : Byte} (unknown : ∀ x ∈ s.sources, x.addr ≠ a) : s.source? a = none :=
  List.find?_eq_none.2 fun x mem => by simpa using unknown x mem

theorem source?_of_mem {s : State} {a : Byte} (known : ∃ x ∈ s.sources, x.addr = a) : ∃ x, s.source? a = some x := by
  obtain ⟨x, mem, addr⟩ := known
  refine Option.isSome_iff_exists.1 (List.find?_isSome.2 ⟨x, mem, by simpa using addr⟩)

/-! ### Tracking (R29, R30) -/

theorem qualifies_iff (m : List MapEntry) (a : Byte) (f : SampleFrame) : qualifies m a f = true ↔
    f.quality ≠ .invalid ∧ ∀ e ∈ m, e.source = a → e.slot.val < f.values.length := by
  simp [qualifies, imp_iff_not_or]

/-- A window of the source has passed without its last counter (R29; log entry 24). -/
def Source.passed (x : Source) (v : WindowIx) : Prop :=
  ∃ u l, x.window = some u ∧ x.last = some l ∧ u ≠ v ∧ ¬ (u + 1 = v ∧ l.toNat % 32 = 31)

theorem carriedStreak_passed {x : Source} {v : WindowIx} (passed : x.passed v) : carriedStreak x v = 0 := by
  obtain ⟨u, l, window, last, other, not_next⟩ := passed
  rw [carriedStreak, window, last]
  refine if_neg ?_
  rw [closesWindow_iff]
  exact fun h => h.elim other not_next

theorem carriedStreak_held {x : Source} {v : WindowIx} (held : ¬ x.passed v) : carriedStreak x v = x.streak := by
  unfold carriedStreak
  split
  · next u l window last =>
    refine if_pos (by_contra fun no => held ⟨u, l, window, last, fun same => no (.inl same), fun next => no (.inr ?_)⟩)
    rw [closesWindow_iff]
    exact next
  · rfl

theorem carriedStreak_le (x : Source) (v : WindowIx) : carriedStreak x v ≤ x.streak := by
  by_cases passed : x.passed v
  · rw [carriedStreak_passed passed]; exact Nat.zero_le _
  · rw [carriedStreak_held passed]

theorem healSource_eq (x : Source) : healSource x = { x with status := if x.streak = 4 then .healthy else x.status } := by
  unfold healSource
  split <;> rfl

/-- The record of a source after an accepted frame. -/
def State.tracks (s : State) (x : Source) (f : SampleFrame) : Source :=
  healSource (trackSource x f (qualifies s.map x.addr f) s.now)

theorem sourceFrame_eq (s : State) (x : Source) (f : SampleFrame) : s.sourceFrame x f =
    if (s.tracks x f).status = x.status then s.modSource x.addr fun _ => s.tracks x f
    else (s.modSource x.addr fun _ => s.tracks x f).notice (.source x.addr (s.tracks x f).status) := by
  unfold State.sourceFrame
  exact if_congr eq_comm rfl rfl

theorem tracks_streak (s : State) (x : Source) (f : SampleFrame) (small : x.streak ≤ 4) : (s.tracks x f).streak ≤ 4 := by
  have := carriedStreak_le x (windowOf f.counter)
  rw [State.tracks, healSource_eq]
  unfold trackSource
  dsimp only
  generalize (if x.window = some (windowOf f.counter) then x.qualified else 0)
    + (if qualifies s.map x.addr f = true then 1 else 0) = n
  split
  · split <;> omega
  · omega

theorem tracks_healthy {s : State} {x : Source} {f : SampleFrame} (ill : x.status ≠ .healthy) :
    (s.tracks x f).status = .healthy ↔ (s.tracks x f).streak = 4 := by
  rw [State.tracks, healSource_eq]
  dsimp only
  split
  · next four => exact iff_of_true rfl four
  · next less => exact iff_of_false ill less

theorem modSource_const {s : State} {a : Byte} {y : Source} (addr : y.addr = a) :
    s.modSource a (fun _ => y) = s.modSource a fun z => { y with addr := z.addr } := by
  unfold State.modSource
  congr 1
  refine List.map_congr_left fun z _ => ?_
  split
  · next same => subst addr; dsimp only; rw [same]
  · rfl

theorem tracks_addr (s : State) (x : Source) (f : SampleFrame) : (s.tracks x f).addr = x.addr := by
  rw [State.tracks, healSource_eq]
  rfl

theorem sourceFrame_only (s : State) (x : Source) (f : SampleFrame) :
    onlyNoticed (s.modSource x.addr fun _ => s.tracks x f) (s.sourceFrame x f) := by
  rw [sourceFrame_eq]
  split
  · rfl
  · exact notice_only _ _

theorem source?_sourceFrame_of (s : State) (x : Source) (f : SampleFrame) (a : Byte) :
    (s.sourceFrame x f).source? a = (s.modSource x.addr fun z => { s.tracks x f with addr := z.addr }).source? a := by
  have sources : (s.sourceFrame x f).sources = (s.modSource x.addr fun _ => s.tracks x f).sources := by rw [sourceFrame_only]
  rw [← modSource_const (tracks_addr s x f)]
  exact congrArg (List.find? fun z : Source => decide (z.addr = a)) sources

theorem source?_sourceFrame_ne (s : State) {x : Source} (f : SampleFrame) {a : Byte} (other : a ≠ x.addr) :
    (s.sourceFrame x f).source? a = s.source? a :=
  (source?_sourceFrame_of s x f a).trans (source?_modSource_ne s _ (fun _ => rfl) other)

theorem source?_sourceFrame {s : State} {x : Source} (f : SampleFrame) (known : s.source? x.addr = some x) :
    (s.sourceFrame x f).source? x.addr = some (s.tracks x f) := by
  have found := source?_modSource (fun z => { s.tracks x f with addr := z.addr }) (fun _ => rfl) known
  rw [source?_sourceFrame_of, found, ← tracks_addr s x f]

/-! ### The three steps (R31) -/

theorem examineRole_evaluated (y : WindowIx) (s : State) (r : Role) : onlyEvaluated s (State.examineRole y s r) := by
  unfold State.examineRole
  split
  · exact openRoleWindow_evaluated _ _ _
  · rfl

theorem yardFrame_evaluated (s : State) (src : Byte) (w : WindowIx) :
    onlyEvaluated { s with yardIx := (s.yardFrame src w).yardIx } (s.yardFrame src w) := by
  unfold State.yardFrame
  dsimp only
  generalize (s.sourceHealthy src && _) = moves
  cases moves with
  | false => rfl
  | true =>
    have only := foldl_evaluated (examineRole_evaluated w) (mappedRoles s.map) { s with yardIx := some (w, s.now) }
    have index : ((mappedRoles s.map).foldl (State.examineRole w) { s with yardIx := some (w, s.now) }).yardIx
        = some (w, s.now) := by rw [only]
    rw [if_pos rfl, index]
    exact only

theorem acceptSample_eq (s : State) (x : Source) (f : SampleFrame) : s.acceptSample x f =
    State.yardFrame ((rolesOfSource s.map x.addr).foldl (State.roleFrame x.addr f) (s.sourceFrame x f)) x.addr
      (windowOf f.counter) := by
  have map : (s.sourceFrame x f).map = s.map := by rw [sourceFrame_only]; rfl
  unfold State.acceptSample
  dsimp only
  rw [map]

theorem mem_rolesOfSource (m : List MapEntry) (a : Byte) (r : Role) : r ∈ rolesOfSource m a ↔
    (∃ e, primaryOf m r = some e ∧ e.source = a) ∨ ∃ e, backupOf m r = some e ∧ e.source = a := by
  have mapped_ {e : MapEntry} (mem : e ∈ entriesOf m r) : ∃ e ∈ m, e.role = some r := ⟨e, by simpa [entriesOf] using mem⟩
  unfold rolesOfSource primaryOf backupOf
  rw [List.mem_filter, mem_mappedRoles]
  match h : entriesOf m r with
  | [] => simp
  | [e] => simp [mapped_ (e := e) (by simp [h])]
  | e :: e' :: _ => simp [mapped_ (e := e) (by simp [h])]

/-- The roles and the yard window index leave the sources as the first step made them. -/
theorem acceptSample_sources (s : State) (x : Source) (f : SampleFrame) :
    (s.acceptSample x f).sources = (s.sourceFrame x f).sources := by
  rw [acceptSample_eq, yardFrame_evaluated]
  have only := foldl_evaluated (roleFrame_evaluated x.addr f) (rolesOfSource s.map x.addr) (s.sourceFrame x f)
  dsimp only
  rw [only]

theorem acceptSample_source? (s : State) (x : Source) (f : SampleFrame) (a : Byte) :
    (s.acceptSample x f).source? a = (s.sourceFrame x f).source? a :=
  congrArg (List.find? fun z : Source => decide (z.addr = a)) (acceptSample_sources s x f)

theorem onlyEvaluated_yardIx {s t : State} (only : onlyEvaluated s t) (i : Option (WindowIx × PartTime)) :
    onlyEvaluated { s with yardIx := i } { t with yardIx := i } := by
  have both := congrArg (fun u : State => { u with yardIx := i }) only
  exact both

theorem acceptSample_evaluated (s : State) (x : Source) (f : SampleFrame) :
    onlyEvaluated { s with sources := (s.acceptSample x f).sources, yardIx := (s.acceptSample x f).yardIx }
      (s.acceptSample x f) := by
  have first : onlyEvaluated (s.modSource x.addr fun _ => s.tracks x f) (s.sourceFrame x f) :=
    onlyEvaluated_of_switched (onlySwitched_of_noticed (sourceFrame_only s x f))
  have second := foldl_evaluated (roleFrame_evaluated x.addr f) (rolesOfSource s.map x.addr) (s.sourceFrame x f)
  have third := yardFrame_evaluated
    ((rolesOfSource s.map x.addr).foldl (State.roleFrame x.addr f) (s.sourceFrame x f)) x.addr (windowOf f.counter)
  have sources : (s.acceptSample x f).sources = (s.modSource x.addr fun _ => s.tracks x f).sources := by
    rw [acceptSample_sources, sourceFrame_only]
  rw [← acceptSample_eq] at third
  rw [sources]
  exact onlyEvaluated_trans (onlyEvaluated_yardIx (onlyEvaluated_trans first second) _) third

/-- The record of a source after a frame, by the frames of its window and by its streak before the frame. -/
theorem tracks_eq {s : State} {x : Source} {f : SampleFrame} {n k : Nat}
    (counted : n = (if x.window = some (windowOf f.counter) then x.qualified else 0)
      + (if qualifies s.map x.addr f then 1 else 0)) (carried : carriedStreak x (windowOf f.counter) = k) :
    s.tracks x f =
      let streak := if f.counter.toNat % 32 = 31 then (if n = 32 then min 4 (k + 1) else 0) else k
      { x with
        last := some f.counter, arrival := s.now, window := some (windowOf f.counter), qualified := n, streak := streak
        status := if streak = 4 then .healthy else x.status } := by
  subst counted carried
  rw [State.tracks, healSource_eq]
  unfold trackSource closesWindow
  simp only [decide_eq_true_eq]

/-- Settles O21, by the record that an accepted frame leaves its source and the frames of the three steps. -/
theorem sampleFramesByTheOrderingTest : Obligations.SampleFramesByTheOrderingTest := by
  refine ⟨fun s src payload => ⟨fun unknown => ?_, fun known => ⟨fun bad => ?_, fun x at_ low high size => ?_⟩⟩,
    fun s x f known fresh => ?_, mem_rolesOfSource⟩
  · rw [State.sampleFrame, source?_eq_none unknown]
  · obtain ⟨x, at_⟩ := source?_of_mem known
    rw [State.sampleFrame, at_]
    dsimp only
    rw [readSample_malformed bad]
  · intro c
    have read : s.sampleFrame src payload = if acceptable x.last c
        then s.acceptSample x ⟨c, qualityOf (byteAt payload 2), slotValuesOf payload (byteAt payload 3).toNat⟩
        else { s with lateSamples := bump s.lateSamples } := by
      rw [State.sampleFrame, at_]
      dsimp only
      rw [readSample_well low high size]
    refine ⟨fun l last late => read.trans (if_neg fun ok => ?_), fun new => read.trans (if_pos ((acceptable_iff _ _).2 new))⟩
    have range := (acceptable_iff _ _).1 ok l last
    obtain same | far := late
    · rw [same, BitVec.sub_self] at range
      exact absurd range.1 (by decide)
    · omega
  · intro t
    have at_ : t.source? x.addr = some (s.tracks x f) := (acceptSample_source? s x f _).trans (source?_sourceFrame f known)
    refine ⟨⟨s.tracks x f, at_, ?_, ?_, ?_, tracks_streak s x f, tracks_healthy⟩, ?_,
      fun a other => (acceptSample_source? s x f a).trans (source?_sourceFrame_ne s f other), acceptSample_evaluated s x f,
      acceptSample_eq s x f⟩
    · rw [tracks_eq rfl rfl]
    · rw [tracks_eq rfl rfl]
    · rw [tracks_eq rfl rfl]
    · intro v whole passed before n k n_whole n_not k_passed k_held streak y u
      have counted : n = before + (if qualifies s.map x.addr f then 1 else 0) := by
        by_cases w : whole
        · rw [n_whole w, if_pos ((qualifies_iff _ _ _).2 w)]
        · rw [n_not w, if_neg fun q => w ((qualifies_iff _ _ _).1 q)]; rfl
      have carried : carriedStreak x v = k := by
        by_cases p : passed
        · rw [carriedStreak_passed p, k_passed p]
        · rw [carriedStreak_held p, k_held p]
      have eq : s.tracks x f = y := tracks_eq counted carried
      rw [at_, sourceFrame_eq, eq]
      exact ⟨rfl, rfl⟩

end Sys2Proof.Machine
end

section
/-! Voltage control: the steps of a window (R110 to R122). -/

namespace Sys2Proof.Machine

/-! ### The accumulator (R113) -/

theorem moveAcc_above {c : ControlSet} {vc : Nat} (above : c.upper < vc) (acc : Int) :
    moveAcc c vc acc = min (c.level : Int) (max acc 0 + ((vc : Int) - (c.upper : Nat))) := by
  rw [moveAcc, if_pos above]
  omega

theorem moveAcc_below {c : ControlSet} {vc : Nat} (below : vc < c.lower) (acc : Int) :
    moveAcc c vc acc = max (-(c.level : Int)) (min acc 0 + ((vc : Int) - (c.lower : Nat))) := by
  have ordered : c.lower ≤ c.upper := by unfold ControlSet.lower ControlSet.upper; omega
  rw [moveAcc, if_neg (by omega), if_pos below]
  omega

theorem moveAcc_within {c : ControlSet} {vc : Nat} (low : c.lower ≤ vc) (high : vc ≤ c.upper) (acc : Int) :
    moveAcc c vc acc = if 0 ≤ acc then max 0 (acc - c.leak) else min 0 (acc + c.leak) := by
  rw [moveAcc, if_neg (by omega), if_neg (by omega)]

theorem moveAcc_bounded {c : ControlSet} {acc : Int} (bounded : acc.natAbs ≤ c.level) (vc : Nat) :
    (moveAcc c vc acc).natAbs ≤ c.level := by
  by_cases above : c.upper < vc
  · rw [moveAcc_above above]; omega
  by_cases below : vc < c.lower
  · rw [moveAcc_below below]; omega
  rw [moveAcc_within (by omega) (by omega)]
  split <;> omega

theorem integrate_acc (c : ControlSet) (vc : Nat) (v : VoltageState) : (integrate c vc v).acc = moveAcc c vc v.acc := rfl

theorem integrate_withheld (c : ControlSet) (vc : Nat) (v : VoltageState) : (integrate c vc v).withheld =
    if (integrate c vc v).acc.natAbs < c.level then .clear else v.withheld := rfl

/-- The leak brings the accumulator toward 0, not beyond. -/
theorem moveAcc_leaks {c : ControlSet} {vc : Nat} (low : c.lower ≤ vc) (high : vc ≤ c.upper) (acc : Int) :
    (moveAcc c vc acc).natAbs = acc.natAbs - c.leak ∧ 0 ≤ moveAcc c vc acc * acc := by
  rw [moveAcc_within low high]
  split
  · next up => exact ⟨by omega, Int.mul_nonneg (by omega) up⟩
  · next down => exact ⟨by omega, Int.mul_nonneg_of_nonpos_of_nonpos (by omega) (by omega)⟩

theorem accumulator_rows (c : ControlSet) (vc : Nat) (v : VoltageState) (bounded : v.acc.natAbs ≤ c.level) :
    let t := integrate c vc v
    t = { v with acc := t.acc, withheld := t.withheld } ∧ t.acc.natAbs ≤ c.level
    ∧ (t.acc.natAbs < c.level → t.withheld = .clear) ∧ (t.acc.natAbs = c.level → t.withheld = v.withheld)
    ∧ (c.upper < vc → 0 < t.acc ∨ c.level = 0)
    ∧ (c.upper < vc → v.acc < 0 → t.acc = min (c.level : Int) ((vc : Int) - (c.upper : Nat)))
    ∧ (c.upper < vc → 0 ≤ v.acc → t.acc = min (c.level : Int) (v.acc + ((vc : Int) - (c.upper : Nat))))
    ∧ (vc < c.lower → 0 < v.acc → t.acc = max (-(c.level : Int)) ((vc : Int) - (c.lower : Nat)))
    ∧ (vc < c.lower → v.acc ≤ 0 → t.acc = max (-(c.level : Int)) (v.acc + ((vc : Int) - (c.lower : Nat))))
    ∧ (vc ≤ c.upper → c.lower ≤ vc → t.acc.natAbs = v.acc.natAbs - c.leak ∧ 0 ≤ t.acc * v.acc) := by
  intro t
  have acc : t.acc = moveAcc c vc v.acc := integrate_acc c vc v
  have withheld : t.withheld = _ := integrate_withheld c vc v
  refine ⟨rfl, acc ▸ moveAcc_bounded bounded vc, fun small => withheld.trans (if_pos small),
    fun full => withheld.trans (if_neg (Nat.not_lt.2 full.ge)), fun above => ?_, fun above down => ?_, fun above up => ?_,
    fun below up => ?_, fun below down => ?_, fun high low => acc ▸ moveAcc_leaks low high v.acc⟩
  · rw [acc, moveAcc_above above]; omega
  · rw [acc, moveAcc_above above]; omega
  · rw [acc, moveAcc_above above]; omega
  · rw [acc, moveAcc_below below]; omega
  · rw [acc, moveAcc_below below]; omega

/-! ### The control voltage (R110, R111) -/

theorem usable_iff (s : State) (r : Role) (w : WindowIx) (x : SlotValues) : s.usable r w = some x ↔
    ∃ y, s.slotFor r w = some y ∧ y.complete = true ∧ y.by_ ≠ .none ∧ y.vals = some x := by
  unfold State.usable
  cases s.slotFor r w with
  | none => simp
  | some y => simp [and_assoc]

theorem selectedPhases_eq (p : PhaseSet) :
    selectedPhases p = ([(Phase.A, p.a), (.B, p.b), (.C, p.c)].filter (·.2)).map (·.1) := by
  unfold selectedPhases
  cases p.a <;> cases p.b <;> cases p.c <;> rfl

theorem selectedPhases_length (p : PhaseSet) : (selectedPhases p).length = ([p.a, p.b, p.c].filter id).length := by
  unfold selectedPhases
  cases p.a <;> cases p.b <;> cases p.c <;> rfl

theorem voltageEvaluate_missing {s : State} {w : WindowIx} (none : s.phaseValues w = []) :
    s.voltageEvaluate w = s.voltageMissing w := if_pos none

theorem voltageEvaluate_valued {s : State} {w : WindowIx} (some_ : s.phaseValues w ≠ []) : s.voltageEvaluate w =
    ((s.modVc fun v => { v with lastVc := some ((s.phaseValues w).sum / (s.phaseValues w).length, w), missing := 0 }).voltageResume
      w).voltageSteps (decide ((s.phaseValues w).length = (selectedPhases s.phases).length))
        ((s.phaseValues w).sum / (s.phaseValues w).length) w := if_neg some_

/-! ### Dead line, restoration and fast removal (R118 to R122) -/

theorem deadLineStep_eq (s : State) (c : ControlSet) (full : Bool) (vc : Nat) (w : WindowIx) {u : State}
    (counted : u = s.modVc fun v => { v with deadCount := deadCountOf c full vc v.deadCount }) : s.deadLineStep c full vc w =
      State.restoreStep (if u.vc.deadCount < c.deadDelay then u else u.deadLineOpening vc w) c full vc w := by
  subst counted
  unfold State.deadLineStep
  dsimp only
  split
  · next due => rw [if_neg (by omega)]
  · next early => rw [if_pos (by omega)]

theorem deadLineOpening_eq (u : State) (vc : Nat) (w : WindowIx) : u.deadLineOpening vc w =
    if u.vc.latch then u.submitDeadLine u.deadLineStages
    else (((u.submitDeadLine u.deadLineStages).modVc fun v => { v with latch := true }).notice
      (.deadLine false w vc (some u.deadLineStages.length))).trigger .deadLine none (some w) := rfl

theorem restoreStep_eq (s : State) (c : ControlSet) (full : Bool) (vc : Nat) (w : WindowIx) : s.restoreStep c full vc w =
    if s.vc.latch = false then s
    else if vc < c.restoreLevel then s.modVc fun v => { v with restoreCount := 0 }
    else if full = false then s
    else if c.restoreDelay ≤ s.vc.restoreCount + 1 then
      (s.modVc fun v => restartHold c.settleHold { v with latch := false, restoreCount := 0 }).notice (.deadLine true w vc none)
    else s.modVc fun v => { v with restoreCount := v.restoreCount + 1 } :=
  if_congr (by simp) rfl (if_congr Iff.rfl rfl (if_congr (by simp) rfl rfl))

theorem tryFastRemoval_idle {s : State} (idle : s.vc.fastPending = false ∨ s.originStands [.fastRemoval] = true
    ∨ s.removalCandidate = none) : s.tryFastRemoval = (s, false) := by
  unfold State.tryFastRemoval
  split
  · rfl
  · next busy =>
    rw [idle.elim (fun h => absurd (by simp [h]) busy) fun h => h.resolve_left fun h => busy (by simp [h])]

theorem tryFastRemoval_tries {s : State} {k : StageIx} (pending : s.vc.fastPending = true)
    (free : s.originStands [.fastRemoval] = false) (candidate : s.removalCandidate = some k) :
    s.tryFastRemoval = if (s.gather k .open .normal .fastRemoval).2 = .queued then
      ((s.gather k .open .normal .fastRemoval).1.modVc fun v =>
        { v with fastPending := false, fastCount := 0, acc := 0, withheld := .clear }, true)
      else ((s.gather k .open .normal .fastRemoval).1, false) := by
  unfold State.tryFastRemoval
  rw [if_neg (by simp [pending, free]), candidate]
  dsimp only
  rcases s.gather k .open .normal .fastRemoval with ⟨t, g⟩
  cases g <;> rfl

/-! ### The step decision (R114, R117) -/

theorem submitStep_eq (s : State) (c : ControlSet) (k : StageIx) (op : Operation) (m : Withheld) : s.submitStep c k op m =
    if (s.gather k op .normal .voltage).2 = .queued then (s.gather k op .normal .voltage).1.modVc (restartHold c.settleHold)
    else (s.gather k op .normal .voltage).1.withhold m := by
  unfold State.submitStep
  rcases s.gather k op .normal .voltage with ⟨t, g⟩
  cases g <;> rfl

/-- No step is due between the two ends of the accumulator. -/
theorem stepDecision_rests {s : State} {c : ControlSet} (low : s.vc.acc ≠ c.level) (high : s.vc.acc ≠ -c.level) (vc : Nat) :
    s.stepDecision c vc = s := by
  unfold State.stepDecision
  dsimp only
  rw [if_neg low, if_neg high]

theorem stepDecision_removes {s : State} {c : ControlSet} (due : s.vc.acc = c.level) (vc : Nat) : s.stepDecision c vc =
    if s.originStands [.voltage, .fastRemoval] then s.withhold .high else s.removalStep c vc := if_pos due

theorem stepDecision_inserts {s : State} {c : ControlSet} (level : 1 ≤ c.level) (due : s.vc.acc = -c.level) (vc : Nat) :
    s.stepDecision c vc =
      if s.originStands [.voltage, .fastRemoval] then s.withhold .low else s.insertionStep c vc := by
  unfold State.stepDecision
  dsimp only
  rw [if_neg (by omega), if_pos due]

theorem removalStep_withheld {s : State} {c : ControlSet} {vc : Nat}
    (no : s.removalCandidate = none ∨ ∃ k, s.removalCandidate = some k ∧ ¬ c.lower + (s.stage k).cfg.effect ≤ vc) :
    s.removalStep c vc = s.withhold .high := by
  obtain none | ⟨k, candidate, fails⟩ := no
  · rw [State.removalStep, none]
  · rw [State.removalStep, candidate]
    exact if_neg fails

theorem removalStep_submits {s : State} {c : ControlSet} {vc : Nat} {k : StageIx} (candidate : s.removalCandidate = some k)
    (fits : c.lower + (s.stage k).cfg.effect ≤ vc) : s.removalStep c vc = s.submitStep c k .open .high := by
  rw [State.removalStep, candidate]
  exact if_pos fits

theorem insertionStep_withheld {s : State} {c : ControlSet} {vc : Nat}
    (no : s.insertionCandidate = none ∨ ∃ k, s.insertionCandidate = some k ∧ ¬ vc + (s.stage k).cfg.effect ≤ c.upper) :
    s.insertionStep c vc = s.withhold .low := by
  obtain none | ⟨k, candidate, fails⟩ := no
  · rw [State.insertionStep, none]
  · rw [State.insertionStep, candidate]
    exact if_neg fails

theorem insertionStep_submits {s : State} {c : ControlSet} {vc : Nat} {k : StageIx} (candidate : s.insertionCandidate = some k)
    (fits : vc + (s.stage k).cfg.effect ≤ c.upper) : s.insertionStep c vc = s.submitStep c k .close .low := by
  rw [State.insertionStep, candidate]
  exact if_pos fits

/-- Settles O46, by the equation of each step. -/
theorem accumulatorStaysWithinLevel : Obligations.AccumulatorStaysWithinLevel := by
  refine ⟨accumulator_rows, fun s w => ?_⟩
  intro with_ v vs full mean valued
  refine ⟨⟨?_, ?_, fun r x => usable_iff s r w x⟩, fun none => ?_, fun some_ active => ?_, fun some_ suspended => ?_,
    fun c vc whole => ⟨fun force => ?_, ?_, ?_, rfl, tryFastRemoval_idle, fun k => tryFastRemoval_tries, fun hold => if_pos hold,
      fun free => ?_, fun low high => stepDecision_rests low high vc, fun op m level due => ?_⟩⟩
  · refine (congrArg (List.filterMap _) (selectedPhases_eq s.phases)).trans ?_
    exact List.filterMap_map ..
  · rw [← selectedPhases_length]
    exact decide_eq_true_iff
  · exact voltageEvaluate_missing none
  · exact (voltageEvaluate_valued some_).trans (congrArg (State.voltageSteps · full mean w) (if_neg active))
  · exact (voltageEvaluate_valued some_).trans (congrArg (State.voltageSteps · full mean w) (if_pos suspended))
  · subst force
    rfl
  · intro count u ks opened
    refine (deadLineStep_eq s c whole vc w rfl).trans (congrArg (State.restoreStep · c whole vc w) ?_)
    exact if_congr Iff.rfl rfl (deadLineOpening_eq u vc w)
  · exact restoreStep_eq s c whole vc w
  · exact if_neg (Nat.not_lt.2 (Nat.le_of_eq free))
  · intro held_ candidate fits
    obtain ⟨rfl, rfl, acc⟩ | ⟨rfl, rfl, acc⟩ := due
    · refine ⟨fun no => (stepDecision_removes acc vc).trans ?_, fun k free candidate fits => (stepDecision_removes acc vc).trans ?_⟩
      · obtain stands | no := no
        · exact if_pos stands
        · rw [removalStep_withheld no, ite_self]
          rfl
      · rw [if_neg (by simp [free]), removalStep_submits candidate fits, submitStep_eq]
        rfl
    · refine ⟨fun no => (stepDecision_inserts level acc vc).trans ?_,
        fun k free candidate fits => (stepDecision_inserts level acc vc).trans ?_⟩
      · obtain stands | no := no
        · exact if_pos stands
        · rw [insertionStep_withheld no, ite_self]
          rfl
      · rw [if_neg (by simp [free]), insertionStep_submits candidate fits, submitStep_eq]
        rfl

end Sys2Proof.Machine
end

section
/-! Unbalance protection: the evaluation of a window (R127 to R142). -/

namespace Sys2Proof.Machine

/-! ### Arithmetic -/

theorem natAbs_squares (a b : Int) : a.natAbs * a.natAbs + b.natAbs * b.natAbs = (a * a + b * b).toNat := by
  have cast : a * a + b * b = ((a.natAbs * a.natAbs + b.natAbs * b.natAbs : Nat) : Int) := by
    rw [Nat.cast_add, Int.natAbs_mul_self, Int.natAbs_mul_self]
  rw [cast, Int.toNat_natCast]

theorem magnitude_eq (re im : Int) : magnitude re im = isqrt (re * re + im * im).toNat := by
  rw [magnitude, natAbs_squares]

theorem unbalancePm_none (re im : Int) : unbalancePm (re, im) none = isqrt (re * re + im * im).toNat * 1000 / 11585 := by
  simp [unbalancePm, magnitude_eq]

theorem unbalancePm_some (re im cre cim : Int) : unbalancePm (re, im) (some (cre, cim))
    = isqrt ((re - cre) * (re - cre) + (im - cim) * (im - cim)).toNat * 1000 / 11585 := by
  simp [unbalancePm, magnitude_eq]

/-- A counter rises from the level on, falls to 0 at the dropout and stands in between (R132). -/
theorem moveCount_eq (count delay level u : Nat) : moveCount count delay level u =
    if level ≤ u then min delay (count + 1) else if u ≤ level * 15 / 16 then 0 else count := by
  unfold moveCount dropout
  by_cases low : u ≤ level * 15 / 16
  · rw [if_pos low, if_neg (Nat.not_lt.2 low)]
  · rw [if_neg low, if_pos (Nat.not_le.1 low)]

theorem reaches_iff (old new delay : Nat) : reaches old new delay = true ↔ old + 1 = delay ∧ new = delay := by simp [reaches]

/-! ### Alarm (R133, R134) -/

theorem unbalanceAlarmStep_eq (s : State) (k : StageIx) (old u : Nat) (w : WindowIx) :
    s.unbalanceAlarmStep k old u w =
      if old + 1 = (s.stage k).cfg.alarmDelay ∧ (s.stage k).unb.alarmCount = (s.stage k).cfg.alarmDelay
          ∧ (s.stage k).unbalanceAlarm = false then
        ((s.modStage k fun a => { a with unbalanceAlarm := true }).notice
          (.unbalanceAlarm k true none (some u) (some w))).trigger .unbalanceAlarm (some k) (some w)
      else if u ≤ (s.stage k).cfg.alarmLevel * 15 / 16 ∧ (s.stage k).unbalanceAlarm = true
          ∧ ¬ ((s.stage k).state = .lockedOut ∨ (s.stage k).lockoutPending = true) then
        (s.modStage k fun a => { a with unbalanceAlarm := false }).notice
          (.unbalanceAlarm k false (some .dropout) (some u) (some w))
      else s := by
  unfold State.unbalanceAlarmStep
  dsimp only
  refine if_congr (by simp [reaches_iff, and_assoc]) rfl ?_
  have locked : lockoutKeeps (s.stage k) = true ↔ (s.stage k).state = .lockedOut ∨ (s.stage k).lockoutPending = true := by
    simp [lockoutKeeps]
  unfold State.clearAlarmUnlessLocked State.clearAlarm dropout
  by_cases low : u ≤ (s.stage k).cfg.alarmLevel * 15 / 16
  · by_cases lock : lockoutKeeps (s.stage k) = true
    · rw [if_pos low, if_pos lock, if_neg fun h => h.2.2 (locked.1 lock)]
    · rw [if_pos low, if_neg lock]
      exact if_congr ⟨fun flag => ⟨low, flag, fun h => lock (locked.2 h)⟩, fun h => h.2.1⟩ rfl rfl
  · rw [if_neg low, if_neg fun h => low h.1]

/-- A counter that has just reached its delay leaves the alarm raised. -/
theorem unbalanceAlarmStep_raises {s : State} {k : StageIx} {old u : Nat} {w : WindowIx}
    (one : old + 1 = (s.stage k).cfg.alarmDelay) (at_ : (s.stage k).unb.alarmCount = (s.stage k).cfg.alarmDelay)
    (high : (s.stage k).cfg.alarmLevel * 15 / 16 < u) : ((s.unbalanceAlarmStep k old u w).stage k).unbalanceAlarm = true := by
  rw [unbalanceAlarmStep_eq]
  cases flag : (s.stage k).unbalanceAlarm with
  | false => rw [if_pos ⟨one, at_, rfl⟩, trigger_stage, notice_stage, State.modStage_stage]
  | true => rw [if_neg (by simp), if_neg fun h => absurd h.1 (by omega), flag]

theorem unbalanceAlarmStep_unb (s : State) (k : StageIx) (old u : Nat) (w : WindowIx) :
    ((s.unbalanceAlarmStep k old u w).stage k).unb = (s.stage k).unb := by
  rw [unbalanceAlarmStep_eq]
  split
  · rw [trigger_stage, notice_stage, State.modStage_stage]
  · split
    · rw [notice_stage, State.modStage_stage]
    · rfl

/-! ### Trip (R135 to R137) -/

/-- Sending and gathering leave a record's element and its alarm. -/
theorem gather_element (s : State) (k j : StageIx) (op : Operation) (c : CmdClass) (o : Origin) :
    let t := (s.gather k op c o).1
    (t.stage j).unb = (s.stage j).unb ∧ (t.stage j).unbalanceAlarm = (s.stage j).unbalanceAlarm := by
  refine gather_frame (P := fun t => (t.stage j).unb = (s.stage j).unb ∧ (t.stage j).unbalanceAlarm = (s.stage j).unbalanceAlarm)
    (fun _ _ h => h) (fun t e r h => ?_) (fun t e h => ?_) ⟨rfl, rfl⟩ k op c o
  · rw [dropEntry_stage]; exact h
  · by_cases own : j = e.stage
    · subst own; rw [sendEntry_stage]; exact h
    · rw [sendEntry_stage_ne t e own]; exact h

theorem submitTrip_eq (s : State) (k : StageIx) :
    s.submitTrip k = if (s.gather k .open .protect .unbalanceTrip).2 = .already then
      ((s.gather k .open .protect .unbalanceTrip).1.modStage k fun a => { a with inFlight := a.inFlight.map raiseFlight }, .already)
    else s.gather k .open .protect .unbalanceTrip := by
  unfold State.submitTrip
  rcases s.gather k .open .protect .unbalanceTrip with ⟨t, g⟩
  cases g <;> rfl

theorem submitTrip_element (s : State) (k : StageIx) : ((s.submitTrip k).1.stage k).unb = (s.stage k).unb
    ∧ ((s.submitTrip k).1.stage k).unbalanceAlarm = (s.stage k).unbalanceAlarm := by
  have gathered := gather_element s k k .open .protect .unbalanceTrip
  rw [submitTrip_eq]
  split
  · rw [State.modStage_stage]; exact gathered
  · exact gathered

theorem unbalanceTripStep_eq (s : State) (k : StageIx) (old u : Nat) (w : WindowIx) : s.unbalanceTripStep k old u w =
    if old + 1 = (s.stage k).cfg.tripDelay ∧ (s.stage k).unb.tripCount = (s.stage k).cfg.tripDelay then
      let g := (s.modStage k fun a => { a with lockoutPending := true }).submitTrip k
      (g.1.notice (.unbalanceTrip k u w g.2)).trigger .unbalanceTrip (some k) (some w)
    else if (s.stage k).unb.tripCount = (s.stage k).cfg.tripDelay then (s.submitTrip k).1
    else s := if_congr (reaches_iff _ _ _) rfl rfl

theorem unbalanceTripStep_element (s : State) (k : StageIx) (old u : Nat) (w : WindowIx) :
    ((s.unbalanceTripStep k old u w).stage k).unb = (s.stage k).unb
    ∧ ((s.unbalanceTripStep k old u w).stage k).unbalanceAlarm = (s.stage k).unbalanceAlarm := by
  rw [unbalanceTripStep_eq]
  split
  · have submitted := submitTrip_element (s.modStage k fun a => { a with lockoutPending := true }) k
    rw [State.modStage_stage] at submitted
    dsimp only
    rw [trigger_stage, notice_stage]
    exact submitted
  · split
    · exact submitTrip_element s k
    · exact ⟨rfl, rfl⟩

/-! ### Balance capture (R142) -/

theorem finishCapture_running {s : State} {k : StageIx} (running : ∀ b, (s.stage k).unb.capture = some b → b.count < 16)
    (w : WindowIx) : s.finishCapture k w = s := by
  unfold State.finishCapture
  split
  · next b capture => exact if_neg (Nat.not_le.2 (running b capture))
  · rfl

theorem finishCapture_stores {s : State} {k : StageIx} {b : BalanceCapture} (capture : (s.stage k).unb.capture = some b)
    (full : 16 ≤ b.count) (w : WindowIx) : s.finishCapture k w =
      let cre := max (-4096) (min 4095 (b.sumRe.tdiv 16))
      let cim := max (-4096) (min 4095 (b.sumIm.tdiv 16))
      (s.modStage k fun a =>
        { a with cfg := { a.cfg with comp := some (cre, cim) }, unb := { a.unb with capture := none } }).notice
        (.balanceStored k cre cim (decide (cre ≠ b.sumRe.tdiv 16 ∨ cim ≠ b.sumIm.tdiv 16)) w) := by
  have clamp (x : Int) : clampInt (-4096) 4095 x = max (-4096) (min 4095 x) := by
    rw [clampInt_eq (by decide), min_comm]
  unfold State.finishCapture
  rw [capture]
  dsimp only
  rw [if_pos full, clamp, clamp]

theorem finishCapture_element (s : State) (k : StageIx) (w : WindowIx) :
    ((s.finishCapture k w).stage k).unb = { (s.stage k).unb with capture := ((s.finishCapture k w).stage k).unb.capture }
    ∧ ((s.finishCapture k w).stage k).unbalanceAlarm = (s.stage k).unbalanceAlarm := by
  by_cases full : ∃ b, (s.stage k).unb.capture = some b ∧ 16 ≤ b.count
  · obtain ⟨b, capture, full⟩ := full
    rw [finishCapture_stores capture full]
    dsimp only
    rw [notice_stage, State.modStage_stage]
    exact ⟨rfl, rfl⟩
  · rw [finishCapture_running fun b capture => Nat.not_le.1 fun large => full ⟨b, capture, large⟩]
    exact ⟨rfl, rfl⟩

/-! ### A window (R127) -/

theorem unbalanceEvaluate_idle {s : State} {k : StageIx}
    (idle : (s.stage k).cfg.enabled = false ∨ (s.stage k).reported ≠ some .closed) (w : WindowIx) :
    s.unbalanceEvaluate k w = s := if_pos (by simpa using idle)

theorem unbalanceEvaluate_without {s : State} {k : StageIx} {w : WindowIx}
    (without : s.usable (.neutralI k) w = none ∨ s.usable (.busV .A) w = none) : s.unbalanceEvaluate k w = s := by
  unfold State.unbalanceEvaluate
  dsimp only
  split
  · rfl
  · obtain none | none := without
    · rw [none]
    · rw [none]
      cases s.usable (.neutralI k) w <;> rfl

theorem unbalanceEvaluate_with {s : State} {k : StageIx} {w : WindowIx} {n v : SlotValues}
    (enabled : (s.stage k).cfg.enabled = true) (closed : (s.stage k).reported = some .closed)
    (neutral : s.usable (.neutralI k) w = some n) (bus : s.usable (.busV .A) w = some v) : s.unbalanceEvaluate k w =
      if magnitude v.re v.im < 1000 then s.modStage k fun a => { a with unb := { a.unb with lowVoltage := true } }
      else s.unbalanceCompute k w (rotate n.re n.im v.re v.im (magnitude v.re v.im)) := by
  unfold State.unbalanceEvaluate
  dsimp only
  rw [if_neg (by simp [enabled, closed]), neutral, bus]

/-- The record once the unbalance `u` of the window is computed and the counters are moved (R130 to R132, R141). -/
def Stage.evaluated (a : Stage) (x : Int × Int) (w : WindowIx) : Stage :=
  { a with unb := { a.unb with
    lastU := some ⟨unbalancePm x a.cfg.comp, x.1, x.2, w⟩
    lowVoltage := false
    alarmCount := moveCount a.unb.alarmCount a.cfg.alarmDelay a.cfg.alarmLevel (unbalancePm x a.cfg.comp)
    tripCount := moveCount a.unb.tripCount a.cfg.tripDelay a.cfg.tripLevel (unbalancePm x a.cfg.comp)
    capture := a.unb.capture.map (addCapture x) } }

theorem unbalanceCompute_eq (s : State) (k : StageIx) (w : WindowIx) (x : Int × Int) : s.unbalanceCompute k w x =
    let u := unbalancePm x (s.stage k).cfg.comp
    ((State.unbalanceAlarmStep { s with stages := s.stages.set k ((s.stage k).evaluated x w) } k (s.stage k).unb.alarmCount u
      w).unbalanceTripStep k (s.stage k).unb.tripCount u w).finishCapture k w := rfl

/-- Alarm, trip and capture leave the values of the window in the record. -/
theorem unbalanceCompute_unb (s : State) (k : StageIx) (w : WindowIx) (x : Int × Int) :
    ((s.unbalanceCompute k w x).stage k).unb
      = { ((s.stage k).evaluated x w).unb with capture := ((s.unbalanceCompute k w x).stage k).unb.capture } := by
  have record : State.stage { s with stages := s.stages.set k ((s.stage k).evaluated x w) } k = (s.stage k).evaluated x w :=
    s.modStage_stage k fun a => a.evaluated x w
  rw [unbalanceCompute_eq]
  refine (finishCapture_element _ k w).1.trans ?_
  rw [(unbalanceTripStep_element _ k _ _ w).1, unbalanceAlarmStep_unb, record]

/-- A window at or above the level that brings the counter to its delay leaves the alarm raised (R133). -/
theorem unbalanceCompute_raises {s : State} {k : StageIx} {w : WindowIx} {x : Int × Int} (level : 1 ≤ (s.stage k).cfg.alarmLevel)
    (high : (s.stage k).cfg.alarmLevel ≤ unbalancePm x (s.stage k).cfg.comp)
    (one : (s.stage k).unb.alarmCount + 1 = (s.stage k).cfg.alarmDelay) :
    ((s.unbalanceCompute k w x).stage k).unbalanceAlarm = true := by
  set t : State := { s with stages := s.stages.set k ((s.stage k).evaluated x w) } with ht
  have record : t.stage k = (s.stage k).evaluated x w := s.modStage_stage k fun a => a.evaluated x w
  have cfg : (t.stage k).cfg = (s.stage k).cfg := (congrArg Stage.cfg record).trans rfl
  have counted : (t.stage k).unb.alarmCount = (t.stage k).cfg.alarmDelay := by
    rw [record]
    exact (if_pos high).trans (by rw [one]; exact Nat.min_self _)
  rw [unbalanceCompute_eq]
  dsimp only
  rw [← ht, (finishCapture_element _ k w).2, (unbalanceTripStep_element _ k _ _ w).2]
  refine unbalanceAlarmStep_raises (by rw [cfg]; exact one) counted ?_
  rw [cfg]
  omega

/-- Settles O49, by the equations of a window, of the alarm, the trip and the capture. -/
theorem unbalanceCountersMove : Obligations.UnbalanceCountersMove := by
  refine ⟨fun s k w => ?_, fun nre nim vre vim m => ⟨magnitude_eq vre vim, rfl⟩, fun re im cre cim =>
    ⟨unbalancePm_none re im, unbalancePm_some re im cre cim⟩, fun s k old u w => ?_⟩
  · intro a t moved
    refine ⟨fun idle => unbalanceEvaluate_idle idle w, unbalanceEvaluate_without, fun n v enabled closed neutral bus => ?_⟩
    intro m x u
    have evaluates : t = _ := unbalanceEvaluate_with enabled closed neutral bus
    refine ⟨fun low => evaluates.trans (if_pos low), fun high => ?_⟩
    have computes : t = s.unbalanceCompute k w x := evaluates.trans (if_neg (Nat.not_lt.2 high))
    have unb : (t.stage k).unb = _ := (congrArg (fun y : State => (y.stage k).unb) computes).trans (unbalanceCompute_unb s k w x)
    refine ⟨unbalanceEvaluate_switched s k w, congrArg UnbalanceState.lastU unb, congrArg UnbalanceState.lowVoltage unb,
      (congrArg UnbalanceState.alarmCount unb).trans (moveCount_eq ..), (congrArg UnbalanceState.tripCount unb).trans (moveCount_eq ..),
      fun level above one => ?_, ?_⟩
    · rw [computes]
      exact unbalanceCompute_raises level above one
    · rw [computes, unbalanceCompute_eq]
      unfold Stage.evaluated
      simp only [moveCount_eq]
      rfl
  · intro a with_ kept raised dropped tripped
    refine ⟨unbalanceAlarmStep_eq s k old u w, unbalanceTripStep_eq s k old u w, submitTrip_eq s k, fun running =>
      finishCapture_running running w, fun b capture full => finishCapture_stores capture full w⟩

end Sys2Proof.Machine
end

section
/-! Harmonic supervision: windows judged, alarms, overload and bars (R151 to R160). -/

namespace Sys2Proof.Machine

/-! ### Quantities -/

theorem PhaseAlarms.get_mod (a : PhaseAlarms) {q : Option Nat} (known : ∀ i, q = some i → i < a.orders.length)
    (f : QuantityState → QuantityState) : (a.mod q f).get q = f (a.get q) := by
  cases q with
  | none => rfl
  | some i => simp [PhaseAlarms.mod, PhaseAlarms.get, known i rfl]

theorem PhaseAlarms.get_mod_ne (a : PhaseAlarms) {q q' : Option Nat} (f : QuantityState → QuantityState) (other : q' ≠ q) :
    (a.mod q f).get q' = a.get q' := by
  cases q with
  | none =>
    cases q' with
    | none => exact absurd rfl other
    | some j => rfl
  | some i =>
    cases q' with
    | none => rfl
    | some j => simp [PhaseAlarms.mod, PhaseAlarms.get, show i ≠ j from fun e => other (by rw [e])]

theorem PhaseAlarms.mod_mod (a : PhaseAlarms) (q : Option Nat) (f g : QuantityState → QuantityState) :
    (a.mod q f).mod q g = a.mod q fun x => g (f x) := by
  cases q with
  | none => rfl
  | some i => simp [PhaseAlarms.mod, List.modify_modify_eq, Function.comp_def]

/-- Changes that agree on the quantity are one. -/
theorem PhaseAlarms.mod_congr (a : PhaseAlarms) {q : Option Nat} {f g : QuantityState → QuantityState}
    (same : f (a.get q) = g (a.get q)) : a.mod q f = a.mod q g := by
  cases q with
  | none => exact congrArg (fun x => { a with thd := x }) same
  | some i =>
    have orders : a.orders.modify i f = a.orders.modify i g := by
      refine List.ext_getElem? fun j => ?_
      rw [List.getElem?_modify, List.getElem?_modify]
      by_cases at_ : i = j
      · subst at_
        cases h : a.orders[i]? with
        | none => rfl
        | some x => simpa [PhaseAlarms.get, h] using same
      · simp [at_]
    exact congrArg (fun x => { a with orders := x }) orders

theorem getQuantity_modQuantity (s : State) {p : Phase} {q : Option Nat}
    (known : ∀ i, q = some i → i < s.alarms[phaseIx p].orders.length) (f : QuantityState → QuantityState) :
    (s.modQuantity p q f).getQuantity p q = f (s.getQuantity p q) := by
  have here := PhaseAlarms.get_mod s.alarms[phaseIx p] known f
  simpa [State.modQuantity, State.getQuantity] using here

theorem getQuantity_modQuantity_ne (s : State) {p p' : Phase} {q q' : Option Nat} (f : QuantityState → QuantityState)
    (other : (p', q') ≠ (p, q)) : (s.modQuantity p q f).getQuantity p' q' = s.getQuantity p' q' := by
  unfold State.modQuantity State.getQuantity
  by_cases phase : p' = p
  · subst phase
    have quantity : q' ≠ q := fun e => other (by rw [e])
    simp [PhaseAlarms.get_mod_ne _ f quantity]
  · have index : ¬ (phaseIx p : Nat) = phaseIx p' := fun e => phase (phaseIx_injective (Fin.ext e)).symm
    simp [index]

theorem modQuantity_modQuantity (s : State) (p : Phase) (q : Option Nat) (f g : QuantityState → QuantityState) :
    (s.modQuantity p q f).modQuantity p q g = s.modQuantity p q fun x => g (f x) := by
  simp [State.modQuantity, PhaseAlarms.mod_mod]

theorem modQuantity_congr (s : State) {p : Phase} {q : Option Nat} {f g : QuantityState → QuantityState}
    (same : f (s.getQuantity p q) = g (s.getQuantity p q)) : s.modQuantity p q f = s.modQuantity p q g := by
  have kept : s.alarms[phaseIx p].mod q f = s.alarms[phaseIx p].mod q g := PhaseAlarms.mod_congr _ same
  simp only [State.modQuantity, kept]

theorem modQuantity_id (s : State) (p : Phase) (q : Option Nat) : (s.modQuantity p q fun a => a) = s := by
  have kept : s.alarms[phaseIx p].mod q (fun a => a) = s.alarms[phaseIx p] := by
    cases q with
    | none => rfl
    | some i => exact congrArg (fun x => { s.alarms[phaseIx p] with orders := x }) (List.modify_id i _)
  have alarms : s.alarms.set (phaseIx p) (s.alarms[phaseIx p].mod q fun a => a) = s.alarms := by
    rw [kept]
    exact Vector.set_getElem_self _
  simp only [State.modQuantity, alarms]

theorem busAlarm_eq (s : State) (q : Option Nat) : s.busAlarm q
    = ((s.getQuantity .A q).alarm || (s.getQuantity .B q).alarm || (s.getQuantity .C q).alarm) := by
  cases q <;> rfl

/-! ### One quantity of one phase (R153 to R155) -/

/-- A window at or above the limit that brings the counter of a quantity to its delay raises its phase alarm. -/
def State.raises (s : State) (p : Phase) (q : Option Nat) (v : Nat) : Prop :=
  (s.getQuantity p q).alarm = false ∧ s.limitOf q ≤ v ∧ (s.getQuantity p q).count + 1 = s.table.alarmDelay

/-- The counter of a quantity after a window (R153). -/
def State.counted (s : State) (p : Phase) (q : Option Nat) (v : Nat) : Nat :=
  moveCount (s.getQuantity p q).count s.table.alarmDelay (s.limitOf q) v

/-- The quantity with the counter moved. -/
def State.moved (s : State) (p : Phase) (q : Option Nat) (v : Nat) : State :=
  s.modQuantity p q fun a => { a with count := s.counted p q v }

theorem reaches_counted (s : State) (p : Phase) (q : Option Nat) (v : Nat) :
    (reaches (s.getQuantity p q).count (s.counted p q v) s.table.alarmDelay && !(s.getQuantity p q).alarm) = true
      ↔ s.raises p q v := by
  unfold State.raises State.counted
  rw [Bool.and_eq_true, reaches_iff, moveCount_eq, Bool.not_eq_true']
  constructor
  · rintro ⟨⟨one, full⟩, quiet⟩
    refine ⟨quiet, by_contra fun below => ?_, one⟩
    rw [if_neg below] at full
    split at full <;> omega
  · rintro ⟨quiet, high, one⟩
    exact ⟨⟨one, by rw [if_pos high, one, Nat.min_self]⟩, quiet⟩

theorem judgeQuantity_raises {s : State} {p : Phase} {q : Option Nat} {v : Nat} (raises : s.raises p q v) (w : WindowIx) :
    s.judgeQuantity p w q v = ((s.moved p q v).raisePhaseAlarm p q v w).recoverStep p q v w :=
  congrArg (fun u : State => u.recoverStep p q v w) (if_pos ((reaches_counted s p q v).2 raises))

theorem judgeQuantity_quiet {s : State} {p : Phase} {q : Option Nat} {v : Nat} (quiet : ¬ s.raises p q v) (w : WindowIx) :
    s.judgeQuantity p w q v = (s.moved p q v).recoverStep p q v w :=
  congrArg (fun u : State => u.recoverStep p q v w) (if_neg fun h => quiet ((reaches_counted s p q v).1 h))

theorem recoverStep_quiet {s : State} {p : Phase} {q : Option Nat} (quiet : (s.getQuantity p q).alarm = false) (v : Nat)
    (w : WindowIx) : s.recoverStep p q v w = s := if_pos (by simp [quiet])

theorem recoverStep_high {s : State} {p : Phase} {q : Option Nat} {v : Nat} (alarm : (s.getQuantity p q).alarm = true)
    (high : s.limitOf q * 15 / 16 < v) (w : WindowIx) :
    s.recoverStep p q v w = s.modQuantity p q fun a => { a with recover := 0 } :=
  (if_neg (by simp [alarm])).trans (if_neg (Nat.not_le.2 high))

theorem recoverStep_low {s : State} {p : Phase} {q : Option Nat} {v : Nat} (alarm : (s.getQuantity p q).alarm = true)
    (low : v ≤ s.limitOf q * 15 / 16) (w : WindowIx) : s.recoverStep p q v w =
      if s.table.recoverDelay ≤ (s.getQuantity p q).recover + 1 then s.clearPhaseAlarm p q v w
      else s.modQuantity p q fun a => { a with recover := a.recover + 1 } :=
  (if_neg (by simp [alarm])).trans (if_pos low)

/-- A change after the counter has moved is one change of the quantity as it was. -/
theorem moved_modQuantity (s : State) {p : Phase} {q : Option Nat} (v : Nat) (f : QuantityState → QuantityState) {x : QuantityState}
    (result : f { s.getQuantity p q with count := s.counted p q v } = x) :
    (s.moved p q v).modQuantity p q f = s.modQuantity p q fun _ => x := by
  rw [State.moved, modQuantity_modQuantity]
  exact modQuantity_congr s result

section
variable {s : State} {p : Phase} {q : Option Nat} (known : ∀ i, q = some i → i < s.alarms[phaseIx p].orders.length)
include known

theorem getQuantity_moved (v : Nat) :
    (s.moved p q v).getQuantity p q = { s.getQuantity p q with count := s.counted p q v } := getQuantity_modQuantity s known _

/-- A moved counter changes no alarm. -/
theorem busAlarm_moved (v : Nat) : (s.moved p q v).busAlarm q = s.busAlarm q := by
  have kept (p' : Phase) : ((s.moved p q v).getQuantity p' q).alarm = (s.getQuantity p' q).alarm := by
    by_cases own : p' = p
    · subst own
      rw [getQuantity_moved known]
    · have other := getQuantity_modQuantity_ne s (p := p) (q := q) (fun a => { a with count := s.counted p q v })
        (p' := p') (q' := q) fun e => own (by injection e)
      exact congrArg QuantityState.alarm other
  rw [busAlarm_eq, busAlarm_eq, kept, kept, kept]

theorem judgeQuantity_raised {v : Nat} (raises : s.raises p q v) (level : 1 ≤ s.limitOf q) (w : WindowIx) :
    s.judgeQuantity p w q v =
      let m := s.modQuantity p q fun _ => ⟨s.counted p q v, 0, true⟩
      if s.busAlarm q then m
      else (m.notice (.harmonicAlarm true none (s.orderOf q) (some p) (some v) (some w))).trigger .busHarmonic none (some w) := by
  set m := s.modQuantity p q fun _ => ⟨s.counted p q v, 0, true⟩ with hm
  have alarm : (s.moved p q v).modQuantity p q (fun a => { a with alarm := true, recover := 0 }) = m :=
    moved_modQuantity s v _ rfl
  have raised : (s.moved p q v).raisePhaseAlarm p q v w = if s.busAlarm q then m else
      (m.notice (.harmonicAlarm true none (s.orderOf q) (some p) (some v) (some w))).trigger .busHarmonic none (some w) := by
    unfold State.raisePhaseAlarm
    dsimp only
    rw [busAlarm_moved known, alarm]
    rfl
  dsimp only
  rw [judgeQuantity_raises raises, raised]
  set t := if s.busAlarm q then m else
    (m.notice (.harmonicAlarm true none (s.orderOf q) (some p) (some v) (some w))).trigger .busHarmonic none (some w) with ht
  have alarms : t.alarms = m.alarms := by
    rw [ht]
    split
    · rfl
    · rw [trigger_only, notice_only]
  have table : t.table = s.table := by
    rw [ht]
    split
    · rfl
    · rw [trigger_only, notice_only]; rfl
  have quantity : t.getQuantity p q = ⟨s.counted p q v, 0, true⟩ :=
    (congrArg (fun x : Vector PhaseAlarms 3 => x[phaseIx p].get q) alarms).trans (getQuantity_modQuantity s known _)
  have limit : t.limitOf q = s.limitOf q := by
    unfold State.limitOf
    rw [table]
  have high : t.limitOf q * 15 / 16 < v := by
    have := raises.2.1
    omega
  rw [recoverStep_high (by rw [quantity]) high, modQuantity_congr t (g := fun a => a) (by rw [quantity]), modQuantity_id]

theorem judgeQuantity_recovers {v : Nat} (alarm : (s.getQuantity p q).alarm = true) (low : v ≤ s.limitOf q * 15 / 16)
    (due : s.table.recoverDelay ≤ (s.getQuantity p q).recover + 1) (w : WindowIx) :
    s.judgeQuantity p w q v =
      let m := s.modQuantity p q fun _ => ⟨s.counted p q v, 0, false⟩
      if m.busAlarm q then m
      else m.notice (.harmonicAlarm false (some .recovered) (s.orderOf q) (some p) (some v) (some w)) := by
  have clears : (s.moved p q v).modQuantity p q (fun a => { a with alarm := false, recover := 0 })
      = s.modQuantity p q fun _ => ⟨s.counted p q v, 0, false⟩ := moved_modQuantity s v _ rfl
  have quantity := getQuantity_moved known v
  rw [judgeQuantity_quiet fun raises => by simp [raises.1] at alarm, recoverStep_low (s := s.moved p q v) (by rw [quantity]; exact alarm) low,
    if_pos (by rw [quantity]; exact due)]
  unfold State.clearPhaseAlarm
  dsimp only
  rw [clears]
  rfl

theorem judgeQuantity_counts {v : Nat} (alarm : (s.getQuantity p q).alarm = true) (low : v ≤ s.limitOf q * 15 / 16)
    (early : (s.getQuantity p q).recover + 1 < s.table.recoverDelay) (w : WindowIx) :
    s.judgeQuantity p w q v = s.modQuantity p q fun _ => ⟨s.counted p q v, (s.getQuantity p q).recover + 1, true⟩ := by
  have quantity := getQuantity_moved known v
  rw [judgeQuantity_quiet fun raises => by simp [raises.1] at alarm, recoverStep_low (s := s.moved p q v) (by rw [quantity]; exact alarm) low,
    if_neg (by rw [quantity]; exact Nat.not_le.2 early)]
  exact moved_modQuantity s v _ (by rw [alarm])

theorem judgeQuantity_stands {v : Nat} (alarm : (s.getQuantity p q).alarm = true) (high : s.limitOf q * 15 / 16 < v)
    (w : WindowIx) : s.judgeQuantity p w q v = s.modQuantity p q fun _ => ⟨s.counted p q v, 0, true⟩ := by
  have quantity := getQuantity_moved known v
  rw [judgeQuantity_quiet fun raises => by simp [raises.1] at alarm, recoverStep_high (s := s.moved p q v) (by rw [quantity]; exact alarm) high]
  exact moved_modQuantity s v _ (by rw [alarm])

theorem judgeQuantity_idle {v : Nat} (quiet : (s.getQuantity p q).alarm = false) (rests : ¬ s.raises p q v) (w : WindowIx) :
    s.judgeQuantity p w q v = s.modQuantity p q fun _ => ⟨s.counted p q v, (s.getQuantity p q).recover, false⟩ := by
  have quantity := getQuantity_moved known v
  rw [judgeQuantity_quiet rests, recoverStep_quiet (by rw [quantity]; exact quiet)]
  exact modQuantity_congr s (by rw [quiet])

end

/-! ### Windows judged and held (R151, R152) -/

theorem judged_iff (s : State) (r : Role) (w : WindowIx) (vs : List Nat) (thd : Option Nat) :
    s.judged r w = some (vs, thd) ↔ ∃ x v h f, s.slotFor r w = some x ∧ s.usable r w = some v
      ∧ s.freqAt w = some f ∧ f.off = false ∧ x.clipped = false ∧ v.harm = some h
      ∧ h.orders.map (·.1) = s.table.orders.map (·.1) ∧ h.values = some vs ∧ h.thd = thd := by
  unfold State.judged
  cases s.slotFor r w with
  | none => simp
  | some x =>
    cases s.usable r w with
    | none => simp
    | some v =>
      cases s.freqAt w with
      | none => simp
      | some f =>
        cases harm : v.harm with
        | none => simp [harm]
        | some h => simp [harm]; grind

theorem judgeOrders_eq (p : Phase) (w : WindowIx) : ∀ (vs : List Nat) (i : Nat) (s : State),
    State.judgeOrders p w i vs s = (vs.zipIdx i).foldl (fun u x => u.judgeQuantity p w (some x.2) x.1) s
  | [], _, _ => rfl
  | _ :: vs, i, _ => judgeOrders_eq p w vs (i + 1) _

theorem busHarmonicEvaluate_held {s : State} {p : Phase} {w : WindowIx} (held : s.judged (.busV p) w = none) :
    s.busHarmonicEvaluate p w = s := by rw [State.busHarmonicEvaluate, held]

theorem busHarmonicEvaluate_judges {s : State} {p : Phase} {w : WindowIx} {vs : List Nat} {thd : Option Nat}
    (judged : s.judged (.busV p) w = some (vs, thd)) {orders all : State}
    (each : orders = vs.zipIdx.foldl (fun u x => u.judgeQuantity p w (some x.2) x.1) s)
    (without : thd = none → all = orders) (with_ : ∀ t, thd = some t → all = orders.judgeQuantity p w none t) :
    s.busHarmonicEvaluate p w = if p = .A then allStages.foldl (fun u k => State.barStep w k u) all else all := by
  rw [State.busHarmonicEvaluate, judged]
  dsimp only
  rw [judgeOrders_eq, ← each]
  cases thd with
  | none => rw [without rfl]; rfl
  | some t => rw [with_ t rfl]; rfl

/-! ### Stage overload and bars (R157 to R160) -/

theorem stageHarmonicEvaluate_idle {s : State} {k : StageIx} (idle : (s.stage k).cfg.enabled = false
    ∨ (s.stage k).cfg.thdLimit = 0 ∨ (s.stage k).reported ≠ some .closed) (w : WindowIx) : s.stageHarmonicEvaluate k w = s :=
  if_pos (by simpa [or_assoc] using idle)

theorem stageHarmonicEvaluate_held {s : State} {k : StageIx} {w : WindowIx}
    (held : ∀ vs t, s.judged (.stageI k) w ≠ some (vs, some t)) : s.stageHarmonicEvaluate k w = s := by
  unfold State.stageHarmonicEvaluate
  dsimp only
  split
  · rfl
  · split
    · next vs t judged => exact absurd judged (held vs t)
    · rfl

theorem stageHarmonicEvaluate_judges {s : State} {k : StageIx} {w : WindowIx} {vs : List Nat} {t : Nat}
    (enabled : (s.stage k).cfg.enabled = true) (limit : 1 ≤ (s.stage k).cfg.thdLimit)
    (closed : (s.stage k).reported = some .closed) (judged : s.judged (.stageI k) w = some (vs, some t)) :
    s.stageHarmonicEvaluate k w = s.overloadStep k t w := by
  unfold State.stageHarmonicEvaluate
  dsimp only
  rw [if_neg (by simp [enabled, closed]; omega), judged]

theorem barStep_eq (w : WindowIx) (k : StageIx) (s : State) : State.barStep w k s =
    if (s.stage k).bar = false then s
    else if s.anyBusAlarm = true then s.modStage k fun a => { a with barCount := 0 }
    else if s.table.recoverDelay ≤ (s.stage k).barCount + 1 then
      (s.modStage k fun a => { a with bar := false, barCount := 0 }).notice (.harmonicOverload k .barCleared none none (some w) none)
    else s.modStage k fun a => { a with barCount := a.barCount + 1 } := by
  unfold State.barStep State.clearBar
  cases bar : (s.stage k).bar <;> simp

/-- The overload counter of a stage after a window (R157). -/
def Stage.overCounted (a : Stage) (t : Nat) : Nat := moveCount a.overCount a.cfg.thdDelay a.cfg.thdLimit t

theorem overloadStep_eq (s : State) (k : StageIx) (t : Nat) (w : WindowIx) : s.overloadStep k t w =
    let counted := s.modStage k fun a => { a with overCount := a.overCounted t }
    if reaches (s.stage k).overCount ((s.stage k).overCounted t) (s.stage k).cfg.thdDelay then counted.overloadReached k t w
    else if t ≤ (s.stage k).cfg.thdLimit * 15 / 16 then counted.clearOverload k .dropout
    else counted := rfl

theorem overloadStep_reaches {s : State} {k : StageIx} {t : Nat} (high : (s.stage k).cfg.thdLimit ≤ t)
    (one : (s.stage k).overCount + 1 = (s.stage k).cfg.thdDelay) (w : WindowIx) : s.overloadStep k t w =
      let g := (s.modStage k fun a => { a with overCount := a.overCounted t, overload := true }).gather k .open .normal
        .harmonicRemoval
      let barred := g.1.modStage k fun a => { a with bar := true, barCount := 0 }
      if (s.stage k).overload then barred else
        barred.notice (.harmonicOverload k .raised none (some t) (some w) (some g.2)) := by
  have full : (s.stage k).overCounted t = (s.stage k).cfg.thdDelay := by
    rw [Stage.overCounted, moveCount_eq, if_pos high, one, Nat.min_self]
  rw [overloadStep_eq]
  dsimp only
  rw [if_pos ((reaches_iff _ _ _).2 ⟨one, full⟩)]
  unfold State.overloadReached
  dsimp only
  rw [State.modStage_modStage, State.modStage_stage]

theorem overloadStep_rests {s : State} {k : StageIx} {t : Nat}
    (rests : ¬ ((s.stage k).cfg.thdLimit ≤ t ∧ (s.stage k).overCount + 1 = (s.stage k).cfg.thdDelay)) (w : WindowIx) :
    s.overloadStep k t w =
      let counted := s.modStage k fun a => { a with overCount := a.overCounted t }
      if t ≤ (s.stage k).cfg.thdLimit * 15 / 16 then counted.clearOverload k .dropout else counted := by
  refine if_neg fun reached => rests ?_
  obtain ⟨one, full⟩ := (reaches_iff _ _ _).1 reached
  refine ⟨by_contra fun below => ?_, one⟩
  rw [moveCount_eq, if_neg below] at full
  split at full <;> omega

theorem overloadStep_drops {s : State} {k : StageIx} {t : Nat} (limit : 1 ≤ (s.stage k).cfg.thdLimit)
    (low : t ≤ (s.stage k).cfg.thdLimit * 15 / 16) (w : WindowIx) : s.overloadStep k t w =
      if (s.stage k).overload then
        (s.modStage k fun a => { a with overCount := a.overCounted t, overload := false }).notice
          (.harmonicOverload k .cleared (some .dropout) none none none)
      else s.modStage k fun a => { a with overCount := a.overCounted t } := by
  rw [overloadStep_rests (by omega)]
  dsimp only
  rw [if_pos low]
  unfold State.clearOverload
  rw [State.modStage_modStage, State.modStage_stage]

/-- What a window leaves of the quantities, where no notice and no trigger follow. -/
theorem getQuantity_of_alarms {s t : State} {p : Phase} {q : Option Nat}
    (known : ∀ i, q = some i → i < s.alarms[phaseIx p].orders.length) {b : QuantityState}
    (alarms : t.alarms = (s.modQuantity p q fun _ => b).alarms) : t.getQuantity p q = b
      ∧ (∀ p' q', (p', q') ≠ (p, q) → t.getQuantity p' q' = s.getQuantity p' q')
      ∧ { s with alarms := t.alarms } = s.modQuantity p q fun _ => b := by
  have at_ (p' : Phase) (q' : Option Nat) : t.getQuantity p' q' = (s.modQuantity p q fun _ => b).getQuantity p' q' :=
    congrArg (fun x : Vector PhaseAlarms 3 => x[phaseIx p'].get q') alarms
  refine ⟨(at_ p q).trans (getQuantity_modQuantity s known _),
    fun p' q' other => (at_ p' q').trans (getQuantity_modQuantity_ne s _ other), ?_⟩
  rw [alarms]
  rfl

theorem busAlarm_of_alarms {s t : State} (alarms : t.alarms = s.alarms) (q : Option Nat) : t.busAlarm q = s.busAlarm q := by
  have at_ (p : Phase) : t.getQuantity p q = s.getQuantity p q :=
    congrArg (fun x : Vector PhaseAlarms 3 => x[phaseIx p].get q) alarms
  rw [busAlarm_eq, busAlarm_eq, at_, at_, at_]

/-- Settles O25; a quantity is judged in one of five ways: raised, recovered, counting, standing, or at rest. -/
theorem harmonicElementsJudgeWindows : Obligations.HarmonicElementsJudgeWindows := by
  refine ⟨judged_iff, fun s p w => ⟨busHarmonicEvaluate_held, fun vs thd judged => ?_⟩, fun s p w q v known level => ?_,
    fun s k w => ⟨fun idle => stageHarmonicEvaluate_idle idle w, stageHarmonicEvaluate_held,
      fun vs t enabled limit closed judged => ?_, barStep_eq w k s⟩⟩
  · intro orders all
    exact busHarmonicEvaluate_judges judged rfl (fun none => by simp only [all, none]; rfl) fun t some_ => by simp only [all, some_]; rfl
  · intro a t b level' raised low recovered u
    have rows {m : State} {x : QuantityState} (hm : m = s.modQuantity p q fun _ => x) (alarms : t.alarms = m.alarms) :=
      getQuantity_of_alarms (s := s) (t := t) known (alarms.trans (congrArg State.alarms hm))
    have count : s.counted p q v = (if level' ≤ v then min s.table.alarmDelay (a.count + 1) else if low then 0 else a.count) :=
      moveCount_eq ..
    by_cases r : raised
    · have eq : t = _ := judgeQuantity_raised known r level w
      have alarms : t.alarms = (s.modQuantity p q fun _ => ⟨s.counted p q v, 0, true⟩).alarms := by
        rw [eq]
        dsimp only
        split
        · rfl
        · rw [trigger_only, notice_only]
      obtain ⟨hb, others, hu⟩ := rows rfl alarms
      refine ⟨(congrArg QuantityState.count hb).trans count, iff_of_true (congrArg QuantityState.alarm hb) (.inl r),
        fun _ rests => absurd r rests, fun _ => (congrArg QuantityState.recover hb :), fun alarm => absurd (r.1.symm.trans alarm) nofun,
        others, fun _ quiet => ?_, fun recovers => absurd (r.1.symm.trans recovers.1) nofun, fun active _ => ?_⟩
      · rw [show u = _ from hu]
        exact eq.trans (if_neg (by simp [quiet]))
      · exact (eq.trans (if_pos (active r))).trans hu.symm
    cases alarm : a.alarm with
    | false =>
      have eq : t = _ := judgeQuantity_idle known alarm r w
      obtain ⟨hb, others, hu⟩ := rows rfl (congrArg State.alarms eq)
      have stays : ¬ recovered := fun recovers => absurd (alarm.symm.trans recovers.1) nofun
      exact ⟨(congrArg QuantityState.count hb).trans count,
        iff_of_false (fun on => absurd ((congrArg QuantityState.alarm hb).symm.trans on) nofun) fun h => h.elim r fun both => absurd both.1 nofun,
        fun _ _ => (congrArg QuantityState.recover hb :),
        fun h => h.elim (absurd · r) fun h => h.elim (absurd · stays) fun both => absurd both.1 nofun,
        nofun, others, fun raises => absurd raises r, fun recovers => absurd recovers stays, fun _ _ => eq.trans hu.symm⟩
    | true =>
      by_cases l : low
      · by_cases due : s.table.recoverDelay ≤ a.recover + 1
        · have eq : t = _ := judgeQuantity_recovers known alarm l due w
          have alarms : t.alarms = (s.modQuantity p q fun _ => ⟨s.counted p q v, 0, false⟩).alarms := by
            rw [eq]
            dsimp only
            split
            · rfl
            · rw [notice_only]
          obtain ⟨hb, others, hu⟩ := rows rfl alarms
          have recovers : recovered := ⟨alarm, l, due⟩
          have bus := busAlarm_of_alarms alarms q
          refine ⟨(congrArg QuantityState.count hb).trans count,
            iff_of_false (fun on => absurd ((congrArg QuantityState.alarm hb).symm.trans on) nofun) fun h => h.elim r fun both => both.2 recovers, nofun,
            fun _ => (congrArg QuantityState.recover hb :), fun _ _ stays => absurd recovers stays, others,
            fun raises => absurd raises r, fun _ quiet => ?_, fun _ active => ?_⟩
          · rw [show u = _ from hu]
            exact eq.trans (if_neg (by rw [← bus, quiet]; nofun))
          · exact (eq.trans (if_pos (bus.symm.trans (active recovers)))).trans hu.symm
        · have eq : t = _ := judgeQuantity_counts known alarm l (Nat.not_le.1 due) w
          obtain ⟨hb, others, hu⟩ := rows rfl (congrArg State.alarms eq)
          have stays : ¬ recovered := fun recovers => due recovers.2.2
          exact ⟨(congrArg QuantityState.count hb).trans count,
            iff_of_true (congrArg QuantityState.alarm hb) (.inr ⟨rfl, stays⟩), nofun,
            fun h => h.elim (absurd · r) fun h => h.elim (absurd · stays) fun both => absurd l both.2,
            fun _ _ _ => (congrArg QuantityState.recover hb :), others, fun raises => absurd raises r,
            fun recovers => absurd recovers stays, fun _ _ => eq.trans hu.symm⟩
      · have eq : t = _ := judgeQuantity_stands known alarm (Nat.not_le.1 l) w
        obtain ⟨hb, others, hu⟩ := rows rfl (congrArg State.alarms eq)
        have stays : ¬ recovered := fun recovers => l recovers.2.1
        exact ⟨(congrArg QuantityState.count hb).trans count,
          iff_of_true (congrArg QuantityState.alarm hb) (.inr ⟨rfl, stays⟩), nofun,
          fun _ => (congrArg QuantityState.recover hb :), fun _ yes => absurd yes l, others, fun raises => absurd raises r,
          fun recovers => absurd recovers stays, fun _ _ => eq.trans hu.symm⟩
  · intro with_ count
    have evaluates := stageHarmonicEvaluate_judges enabled limit closed judged
    have counted : (s.stage k).overCounted t = count := moveCount_eq ..
    refine ⟨fun high one => ?_, fun low => ?_, fun above rests => ?_⟩
    · rw [evaluates, overloadStep_reaches high one, ← counted]
      rfl
    · rw [evaluates, overloadStep_drops limit low, ← counted]
      rfl
    · rw [evaluates, overloadStep_rests rests, if_neg (Nat.not_le.2 above), ← counted]
      rfl

end Sys2Proof.Machine
end

section
/-! The values of a window: phasors, harmonics and THD (R46 to R51). -/

namespace Sys2Proof.Machine

/-- The coefficients of a period (R46). -/
def cosTable : List Int := [16384, 16069, 15137, 13623, 11585, 9102, 6270, 3196, 0, -3196, -6270, -9102, -11585, -13623, -15137,
  -16069, -16384, -16069, -15137, -13623, -11585, -9102, -6270, -3196, 0, 3196, 6270, 9102, 11585, 13623, 15137, 16069]

/-- The two rules of R46 fill the period from its first quadrant. -/
theorem cosCoef_eq (m : Nat) : cosCoef m = cosTable.getD (m % 32) 0 := by
  have period : cosCoef m = cosCoef (m % 32) := by simp [cosCoef]
  have table : ∀ k < 32, cosCoef k = cosTable.getD k 0 := by decide
  rw [period, table _ (Nat.mod_lt m (by decide))]

theorem correlate_eq (f : Nat → Int) : ∀ (n : Nat) (xs : List Int),
    correlate f n xs = ((xs.zipIdx n).map fun x => x.1 * f x.2).sum
  | _, [] => rfl
  | n, x :: xs => by
    rw [correlate, correlate_eq f (n + 1) xs, List.zipIdx_cons, List.map_cons, List.sum_cons]

/-- The scaled correlations of order `h` (R47). -/
def scaledRe (h : Nat) (xs : List Int) : Int :=
  (xs.zipIdx.map fun x => x.1 * cosTable.getD (h * x.2 % 32) 0).sum / 16384

def scaledIm (h : Nat) (xs : List Int) : Int :=
  (xs.zipIdx.map fun x => x.1 * -(cosTable.getD ((h * x.2 + 24) % 32) 0)).sum / 16384

/-- The magnitude M_h. -/
def magnitudeOf (h : Nat) (xs : List Int) : Nat :=
  isqrt (scaledRe h xs * scaledRe h xs + scaledIm h xs * scaledIm h xs).toNat / 16

theorem phasor_eq (h : Nat) (xs : List Int) :
    phasor h xs = ⟨scaledRe h xs / 16, scaledIm h xs / 16, magnitudeOf h xs⟩ := by
  have re : correlate (cosOf h) 0 xs / 16384 = scaledRe h xs := by
    rw [correlate_eq]
    simp only [cosOf, cosCoef_eq]
    rfl
  have im : correlate (sinOf h) 0 xs / 16384 = scaledIm h xs := by
    rw [correlate_eq]
    simp only [sinOf, cosCoef_eq]
    rfl
  unfold phasor magnitudeOf
  dsimp only
  rw [re, im, natAbs_squares]

theorem harmonicPart_orders (orders : List Nat) (m1 : Nat) (xs : List Int) :
    (harmonicPart orders m1 xs).orders = orders.map fun h => (h, magnitudeOf h xs) := by
  unfold harmonicPart
  simp only [phasor_eq]
  split <;> rfl

theorem harmonicPart_values (orders : List Nat) (m1 : Nat) (xs : List Int) : (harmonicPart orders m1 xs).values =
    if 256 ≤ m1 then some (orders.map fun h => min 2000 (magnitudeOf h xs * 1000 / m1)) else none := by
  unfold harmonicPart
  simp only [phasor_eq, List.map_map]
  split <;> rfl

theorem harmonicPart_thd (orders : List Nat) (m1 : Nat) (xs : List Int) : (harmonicPart orders m1 xs).thd =
    if 256 ≤ m1 ∧ orders ≠ [] then
      some (min 2000 (isqrt (orders.map fun h => magnitudeOf h xs * magnitudeOf h xs).sum * 1000 / m1)) else none := by
  unfold harmonicPart thdPm
  simp only [phasor_eq, List.map_map]
  by_cases high : 256 ≤ m1
  · by_cases empty : orders = []
    · simp [high, empty]
    · simp [high, empty, Function.comp_def]
  · simp [high]

theorem slotValues_harm (orders : List Nat) (r : Role) (xs : List Int) : (slotValues orders r xs).harm =
    if hasHarmonics r then some (harmonicPart orders (magnitudeOf 1 xs) xs) else none := by
  unfold slotValues
  rw [phasor_eq]

theorem slotValues_fundamental (orders : List Nat) (r : Role) (xs : List Int) :
    (slotValues orders r xs).re = scaledRe 1 xs / 16 ∧ (slotValues orders r xs).im = scaledIm 1 xs / 16
    ∧ (slotValues orders r xs).m1 = magnitudeOf 1 xs ∧ (slotValues orders r xs).fund = magnitudeOf 1 xs * 1000 / 11585 := by
  unfold slotValues
  rw [phasor_eq]
  exact ⟨rfl, rfl, rfl, rfl⟩

theorem hasHarmonics_iff (r : Role) : hasHarmonics r = true ↔ ∀ k, r ≠ .neutralI k := by
  cases r <;> simp [hasHarmonics]

/-- Settles O28, by the values of a phasor and of a harmonic part. -/
theorem harmonicAvailability : Obligations.HarmonicAvailability := by
  intro orders r xs v c re im mag
  have harm := slotValues_harm orders r xs
  have fundamental := slotValues_fundamental orders r xs
  refine ⟨fundamental, fun h some_ => ?_, fun k e => ?_, fun measured => ?_⟩
  · have part : h = harmonicPart orders (magnitudeOf 1 xs) xs := by
      rw [show (slotValues orders r xs).harm = some h from some_] at harm
      split at harm
      · exact Option.some.inj harm
      · cases harm
    rw [part]
    exact ⟨harmonicPart_orders _ _ _, harmonicPart_values _ _ _, harmonicPart_thd _ _ _⟩
  · have unmeasured : ¬ hasHarmonics r = true := fun h => (hasHarmonics_iff r).1 h k e
    rw [if_neg unmeasured] at harm
    exact harm
  · rw [if_pos ((hasHarmonics_iff r).2 measured)] at harm
    refine ⟨_, harm, ?_, ?_, ?_, fun vs values => ?_, fun x thd => ?_⟩
    · rw [harmonicPart_orders, List.map_map]
      exact List.map_id' orders
    · rw [harmonicPart_values, fundamental.2.2.1]
      split <;> simp [*]
    · rw [harmonicPart_thd, fundamental.2.2.1]
      split <;> simp [*]
    · rw [harmonicPart_values] at values
      split at values
      · obtain rfl := Option.some.inj values
        refine ⟨List.length_map _, fun x mem => ?_⟩
        obtain ⟨k, -, rfl⟩ := List.mem_map.1 mem
        exact Nat.min_le_left _ _
      · cases values
    · rw [harmonicPart_thd] at thd
      split at thd
      · obtain rfl := Option.some.inj thd
        exact Nat.min_le_left _ _
      · cases thd

end Sys2Proof.Machine
end

section
/-! The request decoder: a MANAGE payload written field by field is read back (R187, R188). -/

namespace Sys2Proof.Machine

/-! ### Bytes of a concatenation -/

theorem byteAt_behind {l r : List Byte} {n : Nat} (size : l.length = n) (i : Nat) : byteAt (l ++ r) (n + i) = byteAt r i := by
  subst size
  simp [byteAt, List.getElem?_append_right]

theorem byteAt_within {l : List Byte} {i : Nat} (inside : i < l.length) (r : List Byte) : byteAt (l ++ r) i = byteAt l i := by
  simp [byteAt, List.getElem?_append_left inside]

theorem wordAt_behind {l r : List Byte} {n : Nat} (size : l.length = n) (i : Nat) : wordAt (l ++ r) (n + i) = wordAt r i := by
  rw [wordAt, Nat.add_assoc, byteAt_behind size, byteAt_behind size, wordAt]

theorem tripleAt_behind {l r : List Byte} {n : Nat} (size : l.length = n) (i : Nat) :
    tripleAt (l ++ r) (n + i) = tripleAt r i := by
  rw [tripleAt, Nat.add_assoc, byteAt_behind size, wordAt_behind size, tripleAt]

/-- In a list of parts of equal length, a byte is found by its part and its place there. -/
theorem byteAt_flatMap {α : Type} {f : α → List Byte} {m : Nat} (size : ∀ x, (f x).length = m) {j : Nat} (inside : j < m)
    (r : List Byte) : ∀ (l : List α) (i : Nat) (h : i < l.length), byteAt (l.flatMap f ++ r) (m * i + j) = byteAt (f l[i]) j
  | x :: l, 0, _ => by
    rw [List.flatMap_cons, List.append_assoc, Nat.mul_zero, Nat.zero_add]
    exact byteAt_within (by rw [size]; exact inside) _
  | x :: l, i + 1, h => by
    rw [List.flatMap_cons, List.append_assoc, show m * (i + 1) + j = m + (m * i + j) by ring, byteAt_behind (size x)]
    exact byteAt_flatMap size inside r l i (Nat.lt_of_succ_lt_succ h)

theorem flatMap_length_const {α : Type} {f : α → List Byte} {m : Nat} (size : ∀ x, (f x).length = m) (l : List α) :
    (l.flatMap f).length = m * l.length := by
  simp [List.length_flatMap, size, Nat.mul_comm]

/-! ### Fields -/

theorem decFlag_encFlag (b : Bool) : decFlag (if b then 1 else 0) = b := by cases b <;> rfl

theorem word_join (w : BitVec 16) : w.extractLsb' 8 8 ++ w.extractLsb' 0 8 = w := by
  refine BitVec.eq_of_toNat_eq ?_
  have := w.isLt
  rw [append_toNat]
  simp only [BitVec.extractLsb'_toNat, Nat.shiftRight_eq_div_pow]
  omega

theorem triple_join (w : BitVec 24) : w.extractLsb' 16 8 ++ (w.extractLsb' 8 8 ++ w.extractLsb' 0 8) = w := by
  refine BitVec.eq_of_toNat_eq ?_
  have := w.isLt
  rw [BitVec.toNat_append, ← Nat.shiftLeft_add_eq_or_of_lt (BitVec.isLt _), Nat.shiftLeft_eq, append_toNat]
  simp only [BitVec.extractLsb'_toNat, Nat.shiftRight_eq_div_pow]
  omega

/-- A count that a parameter part has room for is read back from its byte. -/
theorem count_toNat {n : Nat} (small : n < 256) : (BitVec.ofNat 8 n).toNat = n := by
  rw [BitVec.toNat_ofNat]
  exact Nat.mod_eq_of_lt small

theorem encFlags_eq (fs : List Bool) : encFlags fs = fs.map fun b => if b then 1 else 0 := by
  induction fs with
  | nil => rfl
  | cons b fs ih => rw [encFlags, List.flatMap_cons, ← encFlags, ih]; rfl

/-- A vector of bytes is read back entry by entry. -/
theorem vector_read {α : Type} {n : Nat} (v : Vector α n) {enc : α → Byte} {dec : Byte → α} (inverse : ∀ x, dec (enc x) = x)
    (r : List Byte) : (Vector.ofFn fun i : Fin n => dec (byteAt (v.toList.map enc ++ r) i.val)) = v := by
  refine Vector.ext fun i hi => ?_
  rw [Vector.getElem_ofFn, byteAt_within (by simpa using hi)]
  simp [byteAt, hi, inverse]

theorem setFields_enc (b : Byte) (w : ControlSetWrite) : setFields (b :: encSetWrite w) = w := by
  cases w
  simp [setFields, encSetWrite, enc16, wordAt, byteAt, word_join]

theorem linkFields_enc (w : LinkWrite) : linkFields (encLinkWrite w) = w := by
  have flags : encFlags w.alarmMask.toList = w.alarmMask.toList.map fun b => if b then 1 else 0 := encFlags_eq _
  let front := w.checkModes.toList
  let middle := front ++ (enc16 w.threshold ++ enc16 w.watchdog)
  let back := middle ++ encFlags w.alarmMask.toList
  let rest := [w.noticeAddress, w.nominal, w.closeLimit] ++ enc16 w.closeGap ++ enc16 w.closeTimeout ++ enc16 w.openTimeout
    ++ enc16 w.silence
  have size₁ : front.length = 7 := by simp [front]
  have size₂ : middle.length = 11 := by simp [middle, size₁, enc16]
  have size₃ : back.length = 20 := by simp [back, size₂, flags]
  have view₁ : encLinkWrite w = front ++ (enc16 w.threshold ++ enc16 w.watchdog ++ encFlags w.alarmMask.toList ++ rest) := by
    simp [encLinkWrite, front, rest, List.append_assoc]
  have view₂ : encLinkWrite w = middle ++ (encFlags w.alarmMask.toList ++ rest) := by
    simp [encLinkWrite, middle, front, rest, List.append_assoc]
  have view₃ : encLinkWrite w = back ++ rest := by
    simp [encLinkWrite, back, middle, front, rest, List.append_assoc]
  have byte (i : Nat) : byteAt (encLinkWrite w) (20 + i) = byteAt rest i := by rw [view₃, byteAt_behind size₃]
  have word (i : Nat) : wordAt (encLinkWrite w) (20 + i) = wordAt rest i := by rw [view₃, wordAt_behind size₃]
  have modes : (linkFields (encLinkWrite w)).checkModes = w.checkModes := by
    have read := vector_read w.checkModes (enc := id) (dec := id) (fun _ => rfl)
      (enc16 w.threshold ++ enc16 w.watchdog ++ encFlags w.alarmMask.toList ++ rest)
    rw [List.map_id] at read
    rw [view₁]
    exact read
  have mask : (linkFields (encLinkWrite w)).alarmMask = w.alarmMask := by
    have read := vector_read w.alarmMask decFlag_encFlag rest
    rw [← flags] at read
    refine Eq.trans ?_ read
    unfold linkFields
    simp only [view₂, byteAt_behind size₂]
  have threshold : wordAt (encLinkWrite w) 7 = w.threshold := by
    rw [view₁]
    exact (wordAt_behind size₁ 0).trans (word_join _)
  have watchdog : wordAt (encLinkWrite w) 9 = w.watchdog := by
    rw [view₁]
    exact (wordAt_behind size₁ 2).trans (word_join _)
  have closeGap : wordAt (encLinkWrite w) 23 = w.closeGap := (word 3).trans (word_join _)
  have closeTimeout : wordAt (encLinkWrite w) 25 = w.closeTimeout := (word 5).trans (word_join _)
  have openTimeout : wordAt (encLinkWrite w) 27 = w.openTimeout := (word 7).trans (word_join _)
  have silence : wordAt (encLinkWrite w) 29 = w.silence := (word 9).trans (word_join _)
  have e : linkFields (encLinkWrite w) = ⟨(linkFields (encLinkWrite w)).checkModes, wordAt (encLinkWrite w) 7,
    wordAt (encLinkWrite w) 9, (linkFields (encLinkWrite w)).alarmMask, byteAt rest 0, byteAt rest 1, byteAt rest 2,
    wordAt (encLinkWrite w) 23, wordAt (encLinkWrite w) 25, wordAt (encLinkWrite w) 27, wordAt (encLinkWrite w) 29⟩ := by
    rw [← byte 0, ← byte 1, ← byte 2]
    rfl
  rw [e, modes, threshold, watchdog, mask, closeGap, closeTimeout, openTimeout, silence]
  rfl

theorem armFields_enc (w : ArmWrite) : armFields ([w.mode, w.preCount] ++ encFlags w.mask.toList) = w := by
  have read := vector_read w.mask decFlag_encFlag []
  rw [← encFlags_eq, List.append_nil] at read
  have mask : (armFields ([w.mode, w.preCount] ++ encFlags w.mask.toList)).mask = w.mask := by
    refine Eq.trans ?_ read
    unfold armFields
    simp only [byteAt_behind (l := [w.mode, w.preCount]) (n := 2) rfl]
  exact congrArg (ArmWrite.mk w.mode w.preCount) mask

theorem phaseFields_enc (b : Byte) (p : PhaseSet) : phaseFields (b :: encFlags [p.a, p.b, p.c]) = p := by
  obtain ⟨a, b, c⟩ := p
  exact congr (congr (congrArg PhaseSet.mk (decFlag_encFlag a)) (decFlag_encFlag b)) (decFlag_encFlag c)

/-! ### Lists of fields -/

/-- What a list of parts of equal length holds is read back part by part. -/
theorem range_read {α : Type} {f : α → List Byte} {m : Nat} (size : ∀ x, (f x).length = m) (b : Byte) (l : List α) (r : List Byte)
    {read : Nat → α} (reads : ∀ i (h : i < l.length),
      (∀ j < m, byteAt (b :: (l.flatMap f ++ r)) (1 + m * i + j) = byteAt (f l[i]) j) → read i = l[i]) :
    (List.range l.length).map read = l := by
  refine List.ext_getElem (by simp) fun i h h' => ?_
  rw [List.getElem_map, List.getElem_range]
  refine reads i h' fun j inside => ?_
  rw [← byteAt_flatMap size inside r l i h', Nat.add_assoc]
  exact byteAt_behind (l := [b]) rfl _

theorem entryFields_enc (b : Byte) (es : List MapEntryWrite) :
    (List.range es.length).map (entryFields (b :: es.flatMap encEntryWrite)) = es := by
  have reads := range_read (f := encEntryWrite) (m := 6) (fun _ => rfl) b es [] (read := entryFields (b :: es.flatMap encEntryWrite))
  rw [List.append_nil] at reads
  refine reads fun i h byte => ?_
  have place₁ : 2 + 6 * i = 1 + 6 * i + 1 := by omega
  have place₂ : 3 + 6 * i = 1 + 6 * i + 2 := by omega
  have place₃ : 4 + 6 * i = 1 + 6 * i + 3 := by omega
  have place₅ : 6 + 6 * i = 1 + 6 * i + 5 := by omega
  have source := byte 0 (by decide)
  unfold entryFields wordAt
  rw [Nat.add_zero] at source
  rw [place₁, place₂, place₃, place₅, source, byte 1 (by decide), byte 2 (by decide), byte 3 (by decide), byte 4 (by decide),
    byte 5 (by decide)]
  generalize es[i] = e
  exact congr (congrArg (MapEntryWrite.mk e.source e.slot e.role) (word_join e.gain)) (decFlag_encFlag e.capture)

theorem harmonicFields_enc (w : HarmonicWrite) : harmonicFields (encHarmonicWrite w) w.orders.length = w := by
  let part (x : Byte × BitVec 16) : List Byte := x.1 :: enc16 x.2
  let front := BitVec.ofNat 8 w.orders.length :: w.orders.flatMap part
  let rest := enc16 w.thdLimit ++ enc16 w.alarmDelay ++ enc16 w.recoverDelay
  have size : front.length = 1 + 3 * w.orders.length := by
    rw [List.length_cons, flatMap_length_const (m := 3) (fun _ => rfl), Nat.add_comm]
  have view : encHarmonicWrite w = front ++ rest := by simp [encHarmonicWrite, front, rest, part]
  have orders : ((List.range w.orders.length).map fun i =>
      (byteAt (encHarmonicWrite w) (1 + 3 * i), wordAt (encHarmonicWrite w) (2 + 3 * i))) = w.orders := by
    rw [view]
    refine range_read (f := part) (m := 3) (fun _ => rfl) (BitVec.ofNat 8 w.orders.length) w.orders rest fun i h byte => ?_
    have order : byteAt (front ++ rest) (1 + 3 * i) = w.orders[i].1 := byte 0 (by decide)
    have limit : wordAt (front ++ rest) (2 + 3 * i) = w.orders[i].2 := by
      have place : 2 + 3 * i = 1 + 3 * i + 1 := by omega
      rw [place]
      exact (congrArg₂ (· ++ ·) (byte 1 (by decide)) (byte 2 (by decide))).trans (word_join _)
    rw [order, limit]
  have word (j : Nat) : wordAt (encHarmonicWrite w) (1 + 3 * w.orders.length + j) = wordAt rest j := by
    rw [view, wordAt_behind size]
  have thdLimit : wordAt (encHarmonicWrite w) (1 + 3 * w.orders.length) = w.thdLimit := (word 0).trans (word_join _)
  have alarmDelay : wordAt (encHarmonicWrite w) (3 + 3 * w.orders.length) = w.alarmDelay := by
    rw [show 3 + 3 * w.orders.length = 1 + 3 * w.orders.length + 2 by omega]
    exact (word 2).trans (word_join _)
  have recoverDelay : wordAt (encHarmonicWrite w) (5 + 3 * w.orders.length) = w.recoverDelay := by
    rw [show 5 + 3 * w.orders.length = 1 + 3 * w.orders.length + 4 by omega]
    exact (word 4).trans (word_join _)
  unfold harmonicFields
  rw [orders, thdLimit, alarmDelay, recoverDelay]

/-- WRITE STAGE up to its count of orders, behind the stage index (Table 4-1). -/
def stageFront (k : Byte) (w : StageWrite) : List Byte :=
  k :: (encFlag w.enabled ++ [w.unit, w.rank, w.effect] ++ enc16 w.cooldown ++ enc16 w.alarmLevel ++ enc16 w.alarmDelay
    ++ enc16 w.tripLevel ++ enc16 w.tripDelay ++ encOpt 4 (w.compensation.map fun c => enc16 c.1 ++ enc16 c.2)
    ++ [BitVec.ofNat 8 w.orders.length])

/-- WRITE STAGE behind its orders. -/
def stageRest (w : StageWrite) : List Byte := enc16 w.thdLimit ++ enc16 w.thdDelay ++ enc24 w.operations

theorem encStageWrite_eq (k : Byte) (w : StageWrite) : k :: encStageWrite w = stageFront k w ++ (w.orders ++ stageRest w) := by
  simp [encStageWrite, stageFront, stageRest, List.append_assoc]

theorem stageFront_length (k : Byte) (w : StageWrite) : (stageFront k w).length = 21 := by
  unfold stageFront
  cases w.compensation <;> rfl

theorem stageWrite_length (k : Byte) (w : StageWrite) : (k :: encStageWrite w).length = 28 + w.orders.length := by
  rw [encStageWrite_eq, List.length_append, stageFront_length, List.length_append]
  simp [stageRest, enc16, enc24]
  omega

theorem stageFront_count (k : Byte) (w : StageWrite) : byteAt (k :: encStageWrite w) 20 = BitVec.ofNat 8 w.orders.length := by
  rw [encStageWrite_eq, byteAt_within (by rw [stageFront_length]; decide)]
  unfold stageFront
  cases w.compensation <;> rfl

theorem stageFields_enc (k : Byte) (w : StageWrite) : stageFields (k :: encStageWrite w) w.orders.length = w := by
  have byte (i : Nat) (inside : i < 21) : byteAt (k :: encStageWrite w) i = byteAt (stageFront k w) i := by
    rw [encStageWrite_eq, byteAt_within (by rw [stageFront_length]; exact inside)]
  have word (i : Nat) (inside : i + 1 < 21) : wordAt (k :: encStageWrite w) i = wordAt (stageFront k w) i := by
    rw [wordAt, byte i (by omega), byte (i + 1) inside, wordAt]
  have size : (stageFront k w ++ w.orders).length = 21 + w.orders.length := by rw [List.length_append, stageFront_length]
  have view : k :: encStageWrite w = (stageFront k w ++ w.orders) ++ stageRest w := by
    rw [encStageWrite_eq, List.append_assoc]
  have orders : ((k :: encStageWrite w).drop 21).take w.orders.length = w.orders := by
    rw [encStageWrite_eq, List.drop_left' (stageFront_length k w), List.take_left' rfl]
  have thdLimit : wordAt (k :: encStageWrite w) (21 + w.orders.length) = w.thdLimit := by
    rw [view]
    exact (wordAt_behind size 0).trans (word_join _)
  have thdDelay : wordAt (k :: encStageWrite w) (23 + w.orders.length) = w.thdDelay := by
    rw [view, show 23 + w.orders.length = 21 + w.orders.length + 2 by omega]
    exact (wordAt_behind size 2).trans (word_join _)
  have operations : tripleAt (k :: encStageWrite w) (25 + w.orders.length) = w.operations := by
    rw [view, show 25 + w.orders.length = 21 + w.orders.length + 4 by omega]
    exact (tripleAt_behind size 4).trans (triple_join _)
  unfold stageFields
  rw [orders, thdLimit, thdDelay, operations]
  simp only [byte 1, byte 2, byte 3, byte 4, byte 15, word 5, word 7, word 9, word 11, word 13, word 16, word 18, Nat.reduceLT,
    Nat.reduceAdd]
  have enabled : decFlag (byteAt (stageFront k w) 1) = w.enabled := decFlag_encFlag _
  have cooldown : wordAt (stageFront k w) 5 = w.cooldown := word_join _
  have alarmLevel : wordAt (stageFront k w) 7 = w.alarmLevel := word_join _
  have alarmDelay : wordAt (stageFront k w) 9 = w.alarmDelay := word_join _
  have tripLevel : wordAt (stageFront k w) 11 = w.tripLevel := word_join _
  have tripDelay : wordAt (stageFront k w) 13 = w.tripDelay := word_join _
  have compensation : (if decFlag (byteAt (stageFront k w) 15) then
      some (wordAt (stageFront k w) 16, wordAt (stageFront k w) 18) else none) = w.compensation := by
    unfold stageFront
    cases w.compensation with
    | none => rfl
    | some c => exact congrArg some (Prod.ext (word_join c.1) (word_join c.2))
  rw [enabled, cooldown, alarmLevel, alarmDelay, tripLevel, tripDelay, compensation]
  rfl

/-! ### The payload of a request (R187, R188) -/

theorem manage_payload (s : State) (rq : Requester) (kind : Byte) (ps : List Byte) :
    s.manage rq.source (managePayload rq.number kind ps) =
      if kind = 0x44 then (if ps = [] then s.restartRequest rq else s.answer rq kind (refuse .length))
      else s.answer rq kind (requestAct kind ps) := by
  have number : wordAt (managePayload rq.number kind ps) 1 = rq.number := word_join _
  have large : ¬ (managePayload rq.number kind ps).length < 3 := by simp [managePayload, enc16]
  unfold State.manage
  dsimp only
  rw [if_neg large, number]
  rfl

/-- The frame of a request is carried out as the row of the same request. -/
theorem exec_manage {s : State} (h : s.executes) (rq : Requester) {kind : Byte} {ps : List Byte} {f : RequestAct}
    (other : kind ≠ 0x44) (act : requestAct kind ps = f) :
    (Host.Outcome.next (s.request rq kind f) : Host.Outcome State Fault Refusal)
      = .next (s.manage rq.source (managePayload rq.number kind ps)) := by
  rw [manage_payload, if_neg other, act, State.request_of_executes h]
  rfl

theorem manage_refuses {s : State} {rq : Requester} {kind : Byte} {ps : List Byte} {r : Reason} (other : kind ≠ 0x44)
    (act : requestAct kind ps = refuse r) :
    s.manage rq.source (managePayload rq.number kind ps) = s.reply rq kind false (refused r) := by
  rw [manage_payload, if_neg other, act]
  rfl

theorem sized_refuses {n : Nat} {ps : List Byte} (size : ps.length ≠ n) (f : RequestAct) : sized n ps f = refuse .length :=
  if_neg size

/-! The requests with a reader of their own. -/

theorem requestAct_readMeasurements (ps : List Byte) : requestAct 0x02 ps = readMeasurementsAct ps := rfl

theorem requestAct_writeStage (ps : List Byte) : requestAct 0x11 ps = writeStageAct ps := rfl

theorem requestAct_appendMap (ps : List Byte) : requestAct 0x21 ps = appendMapAct ps := rfl

theorem requestAct_writeControl (ps : List Byte) : requestAct 0x30 ps = writeControlAct ps := rfl

theorem requestAct_writeHarmonic (ps : List Byte) : requestAct 0x31 ps = writeHarmonicAct ps := rfl

theorem requestAct_writeLink (ps : List Byte) : requestAct 0x32 ps = writeLinkAct ps := rfl

theorem requestAct_armCapture (ps : List Byte) : requestAct 0x50 ps = armCaptureAct ps := rfl

theorem readMeasurementsAct_enc (selector : Byte) {roles : List Byte} (small : roles.length < 256) :
    readMeasurementsAct ([selector, BitVec.ofNat 8 roles.length] ++ roles) = State.doReadMeasurements selector roles := by
  have count : (byteAt ([selector, BitVec.ofNat 8 roles.length] ++ roles) 1).toNat = roles.length := count_toNat small
  have size : ([selector, BitVec.ofNat 8 roles.length] ++ roles).length = 2 + roles.length := by
    rw [List.length_append]
    rfl
  unfold readMeasurementsAct sized
  rw [count, size, if_neg (by omega), if_pos rfl]
  rfl

theorem writeStageAct_enc (k : Byte) {w : StageWrite} (small : w.orders.length < 256) :
    writeStageAct (k :: encStageWrite w) = State.doWriteStage k w := by
  have count : (byteAt (k :: encStageWrite w) 20).toNat = w.orders.length := by rw [stageFront_count, count_toNat small]
  unfold writeStageAct
  dsimp only
  rw [count, if_neg (List.cons_ne_nil _ _), if_pos (stageWrite_length k w), stageFields_enc]
  rfl

theorem appendMapAct_enc {es : List MapEntryWrite} (small : es.length < 256) :
    appendMapAct (BitVec.ofNat 8 es.length :: es.flatMap encEntryWrite) = State.doAppendMap es := by
  have count : (byteAt (BitVec.ofNat 8 es.length :: es.flatMap encEntryWrite) 0).toNat = es.length := count_toNat small
  have size : (BitVec.ofNat 8 es.length :: es.flatMap encEntryWrite).length = 1 + 6 * es.length := by
    rw [List.length_cons, flatMap_length_const (m := 6) (fun _ => rfl), Nat.add_comm]
  unfold appendMapAct sized
  dsimp only
  rw [count, size, if_neg (List.cons_ne_nil _ _), if_pos rfl, entryFields_enc]

theorem writeControlAct_set (i : SetId) (w : Option ControlSetWrite) :
    writeControlAct (setSelector i :: encFull encSetWrite w) = State.doWriteControlSet i w := by
  have act : writeControlAct (setSelector i :: encFull encSetWrite w) = writeSetAct i (setSelector i :: encFull encSetWrite w) := by
    cases i <;> rfl
  rw [act]
  cases w with
  | none => rfl
  | some w => exact congrArg (fun x => State.doWriteControlSet i (some x)) (setFields_enc _ w)

theorem writeControlAct_phases (w : Option PhaseSet) :
    writeControlAct (2 :: encFull (fun p => encFlags [p.a, p.b, p.c]) w) = State.doWriteControlPhases w := by
  cases w with
  | none => rfl
  | some p => exact congrArg (fun x => State.doWriteControlPhases (some x)) (phaseFields_enc _ p)

theorem writeHarmonicAct_enc {w : Option HarmonicWrite} (small : ∀ x, w = some x → x.orders.length < 256) :
    writeHarmonicAct (encFull encHarmonicWrite w) = State.doWriteHarmonic w := by
  cases w with
  | none => rfl
  | some w =>
    have count : (byteAt (encHarmonicWrite w) 0).toNat = w.orders.length := count_toNat (small w rfl)
    have size : (encHarmonicWrite w).length = 7 + 3 * w.orders.length := by
      have orders := flatMap_length_const (f := fun x : Byte × BitVec 16 => x.1 :: enc16 x.2) (m := 3) (fun _ => rfl) w.orders
      simp only [encHarmonicWrite, List.length_append, orders]
      simp only [enc16, List.length_cons, List.length_nil]
      omega
    unfold writeHarmonicAct sized encFull
    dsimp only
    rw [count, size, if_neg (List.ne_nil_of_length_pos (by omega)), if_pos rfl, harmonicFields_enc]

theorem writeLinkAct_enc (w : Option LinkWrite) : writeLinkAct (encFull encLinkWrite w) = State.doWriteLink w := by
  cases w with
  | none => rfl
  | some w =>
    have size : (encLinkWrite w).length = 31 := by simp [encLinkWrite, encFlags_eq, enc16]
    unfold writeLinkAct sized encFull
    dsimp only
    rw [size, if_neg (List.ne_nil_of_length_pos (by omega)), if_pos rfl, linkFields_enc]

theorem armCaptureAct_enc (w : Option ArmWrite) :
    armCaptureAct (encFull (fun x => [x.mode, x.preCount] ++ encFlags x.mask.toList) w) = State.doArmCapture w := by
  cases w with
  | none => rfl
  | some w =>
    have size : ([w.mode, w.preCount] ++ encFlags w.mask.toList).length = 8 := by simp [encFlags_eq]
    unfold armCaptureAct sized encFull
    dsimp only
    rw [size, if_neg (List.ne_nil_of_length_pos (by omega)), if_pos rfl, armFields_enc]

theorem requestsAreCarriedOut {s : State} {i : Instr} {rq : Requester} {kind : Byte} {ps : List Byte} (h : s.executes)
    (well : WellFormed i = true) (parts : requestParts i = some (rq, kind, ps)) :
    exec i s = .next (s.manage rq.source (managePayload rq.number kind ps)) := by
  cases i <;> cases parts
  case readStatusPart => exact exec_manage h rq (by decide) rfl
  case readStatusControl => exact exec_manage h rq (by decide) rfl
  case readStatusStages first => exact exec_manage h rq (by decide) rfl
  case readStatusHarmonic => exact exec_manage h rq (by decide) rfl
  case readStatusCapture => exact exec_manage h rq (by decide) rfl
  case readMeasurements selector roles =>
    have small : 2 + roles.length ≤ 245 := of_decide_eq_true well
    exact exec_manage h rq (by decide) ((requestAct_readMeasurements _).trans <| readMeasurementsAct_enc selector (by omega))
  case readCounters => exact exec_manage h rq (by decide) rfl
  case clearCounters => exact exec_manage h rq (by decide) rfl
  case readStage k => exact exec_manage h rq (by decide) rfl
  case writeStage k w =>
    have small : 28 + w.orders.length ≤ 245 := of_decide_eq_true well
    exact exec_manage h rq (by decide) ((requestAct_writeStage _).trans <| writeStageAct_enc k (by omega))
  case block k => exact exec_manage h rq (by decide) rfl
  case unblock k => exact exec_manage h rq (by decide) rfl
  case release k => exact exec_manage h rq (by decide) rfl
  case manualOpen k => exact exec_manage h rq (by decide) rfl
  case manualClose k => exact exec_manage h rq (by decide) rfl
  case captureBalance k => exact exec_manage h rq (by decide) rfl
  case clearMap => exact exec_manage h rq (by decide) rfl
  case appendMap es =>
    have small : 1 + 6 * es.length ≤ 245 := of_decide_eq_true well
    exact exec_manage h rq (by decide) ((requestAct_appendMap _).trans <| appendMapAct_enc (by omega))
  case readMap start => exact exec_manage h rq (by decide) rfl
  case writeControlSet i w => exact exec_manage h rq (by decide) ((requestAct_writeControl _).trans <| writeControlAct_set i w)
  case writeControlPhases w => exact exec_manage h rq (by decide) ((requestAct_writeControl _).trans <| writeControlAct_phases w)
  case writeHarmonic w =>
    refine exec_manage h rq (by decide) ((requestAct_writeHarmonic _).trans <| writeHarmonicAct_enc fun x some_ => ?_)
    subst some_
    have small : 7 + 3 * x.orders.length ≤ 245 := of_decide_eq_true well
    omega
  case writeLink w => exact exec_manage h rq (by decide) ((requestAct_writeLink _).trans <| writeLinkAct_enc w)
  case enterService => exact exec_manage h rq (by decide) rfl
  case enterConfig => exact exec_manage h rq (by decide) rfl
  case forceFallback => exact exec_manage h rq (by decide) rfl
  case resume => exact exec_manage h rq (by decide) rfl
  case restart =>
    rw [manage_payload, if_pos rfl, if_pos rfl]
    exact congrArg Host.Outcome.next (if_neg (by simp [h.1, h.2]))
  case armCapture w => exact exec_manage h rq (by decide) ((requestAct_armCapture _).trans <| armCaptureAct_enc w)
  case triggerCapture => exact exec_manage h rq (by decide) rfl
  case readCapture window channel => exact exec_manage h rq (by decide) rfl
  case releaseCapture => exact exec_manage h rq (by decide) rfl

/-! ### What is refused (R188, R191, R107) -/

theorem manage_short (s : State) (src : Byte) {payload : List Byte} (short : payload.length < 3) :
    s.manage src payload = s.reply ⟨src, wordAt payload 1⟩ (byteAt payload 0) false (refused .length) := if_pos short

theorem manage_restart_refuses (s : State) (rq : Requester) {ps : List Byte} (size : ps.length ≠ 0) :
    s.manage rq.source (managePayload rq.number 0x44 ps) = s.reply rq 0x44 false (refused .length) := by
  rw [manage_payload, if_pos rfl, if_neg fun empty => size (congrArg List.length empty)]
  rfl

theorem manage_stage_refuses (s : State) (rq : Requester) {ps : List Byte} (some_ : ps ≠ [])
    (size : ps.length ≠ 28 + (byteAt ps 20).toNat) :
    s.manage rq.source (managePayload rq.number 0x11 ps) = s.reply rq 0x11 false (refusedAt .length (byteAt ps 0)) := by
  have act : writeStageAct ps = fun s => (s, refusedAt .length (byteAt ps 0)) := (if_neg some_).trans (if_neg size)
  rw [manage_payload, if_neg (by decide), requestAct_writeStage, act]
  rfl

theorem requestAct_unknown {kind : Byte} (ps : List Byte) (unknown : kind ∉ ([0x01, 0x02, 0x03, 0x04, 0x10, 0x11, 0x12, 0x13, 0x14,
    0x15, 0x16, 0x17, 0x20, 0x21, 0x22, 0x30, 0x31, 0x32, 0x40, 0x41, 0x42, 0x43, 0x44, 0x50, 0x51, 0x52, 0x53] : List Byte)) :
    kind ≠ 0x44 ∧ requestAct kind ps = refuse .unknown := by
  simp only [List.mem_cons, List.not_mem_nil, or_false, not_or] at unknown
  unfold requestAct
  simp only [unknown, if_false, not_false_eq_true, ne_eq, and_self]

theorem requestAct_bare {kind : Byte} {ps : List Byte} (size : ps.length ≠ 0)
    (bare : kind ∈ ([0x03, 0x04, 0x20, 0x40, 0x41, 0x42, 0x43, 0x51, 0x53] : List Byte)) :
    kind ≠ 0x44 ∧ requestAct kind ps = refuse .length := by
  simp only [List.mem_cons, List.not_mem_nil, or_false] at bare
  rcases bare with rfl | rfl | rfl | rfl | rfl | rfl | rfl | rfl | rfl <;> exact ⟨by decide, sized_refuses size _⟩

theorem requestAct_indexed {kind : Byte} {ps : List Byte} (size : ps.length ≠ 1)
    (indexed : kind ∈ ([0x10, 0x12, 0x13, 0x14, 0x15, 0x16, 0x17, 0x22] : List Byte)) :
    kind ≠ 0x44 ∧ requestAct kind ps = refuse .length := by
  simp only [List.mem_cons, List.not_mem_nil, or_false] at indexed
  rcases indexed with rfl | rfl | rfl | rfl | rfl | rfl | rfl | rfl <;> exact ⟨by decide, sized_refuses size _⟩

theorem byte_eq_of_toNat {b c : Byte} (same : b.toNat = c.toNat) : b = c := BitVec.eq_of_toNat_eq same

theorem readStatusAct_refuses {ps : List Byte} (some_ : ps ≠ []) :
    (4 < (byteAt ps 0).toNat → readStatusAct ps = refuse .index)
    ∧ ((byteAt ps 0).toNat = 2 → ps.length ≠ 2 → readStatusAct ps = refuse .length)
    ∧ ((byteAt ps 0).toNat ≤ 4 → (byteAt ps 0).toNat ≠ 2 → ps.length ≠ 1 → readStatusAct ps = refuse .length) := by
  unfold readStatusAct
  rw [if_neg some_]
  generalize byteAt ps 0 = section_
  refine ⟨fun beyond => ?_, fun stages size => ?_, fun known other size => ?_⟩
  · have apart (c : Byte) (low : c.toNat ≤ 4) : section_ ≠ c := fun same => by rw [same] at beyond; omega
    simp only [apart 0 (by decide), apart 1 (by decide), apart 2 (by decide), apart 3 (by decide), apart 4 (by decide), if_false]
  · obtain rfl : section_ = 2 := byte_eq_of_toNat stages
    exact sized_refuses size _
  · have cases : section_ = 0 ∨ section_ = 1 ∨ section_ = 3 ∨ section_ = 4 := by bv_omega
    rcases cases with rfl | rfl | rfl | rfl <;> exact sized_refuses size _

theorem writeControlAct_refuses {ps : List Byte} (some_ : ps ≠ []) :
    (2 < (byteAt ps 0).toNat → writeControlAct ps = refuse .index)
    ∧ ((byteAt ps 0).toNat ≤ 1 → ps.length ≠ 1 → ps.length ≠ 21 → writeControlAct ps = refuse .length)
    ∧ ((byteAt ps 0).toNat = 2 → ps.length ≠ 1 → ps.length ≠ 4 → writeControlAct ps = refuse .length) := by
  unfold writeControlAct
  rw [if_neg some_]
  generalize byteAt ps 0 = selector
  refine ⟨fun beyond => ?_, fun set_ one size => ?_, fun phases one size => ?_⟩
  · have apart (c : Byte) (low : c.toNat ≤ 2) : selector ≠ c := fun same => by rw [same] at beyond; omega
    simp only [apart 0 (by decide), apart 1 (by decide), apart 2 (by decide), if_false]
  · have cases : selector = 0 ∨ selector = 1 := by bv_omega
    rcases cases with rfl | rfl <;> exact (if_neg one).trans (sized_refuses size _)
  · obtain rfl : selector = 2 := byte_eq_of_toNat phases
    exact (if_neg one).trans (sized_refuses size _)

/-- Settles O38: each field is read back from its place, and each part of another length is refused. -/
theorem requestFramesAreDecoded : Obligations.RequestFramesAreDecoded := by
  refine ⟨fun s i rq kind ps => requestsAreCarriedOut, fun s src payload => manage_short s src, fun s rq kind ps => ?_⟩
  intro answers count
  have refuses {k : Byte} {r : Reason} (e : kind = k) (act : k ≠ 0x44 ∧ requestAct k ps = refuse r) : answers (refused r) := by
    subst e
    exact manage_refuses act.1 act.2
  refine ⟨fun unknown => refuses rfl (requestAct_unknown ps unknown), fun bare size => ?_,
    fun indexed size => refuses rfl (requestAct_indexed size indexed), fun e size => refuses e ⟨by decide, sized_refuses size _⟩,
    fun needed empty => ?_, fun e some_ => ?_, fun e size => ?_, fun e some_ size => ?_, fun e some_ size => ?_, fun e some_ => ?_,
    fun e some_ size => ?_, fun e some_ size => ?_, fun e some_ size => ?_⟩
  · by_cases restart : kind = 0x44
    · subst restart
      exact manage_restart_refuses s rq size
    · refine refuses rfl (requestAct_bare size ?_)
      simp only [List.mem_cons, List.not_mem_nil, or_false, restart, false_or] at bare ⊢
      exact bare
  · subst empty
    simp only [List.mem_cons, List.not_mem_nil, or_false] at needed
    rcases needed with e | e | e | e <;> exact refuses e ⟨by decide, rfl⟩
  · obtain ⟨index, stages, other⟩ := readStatusAct_refuses some_
    exact ⟨fun beyond => refuses e ⟨by decide, index beyond⟩, fun two size => refuses e ⟨by decide, stages two size⟩,
      fun low ne size => refuses e ⟨by decide, other low ne size⟩⟩
  · refine refuses e ⟨by decide, ?_⟩
    by_cases short : ps.length < 2
    · exact if_pos short
    · exact (if_neg short).trans (sized_refuses (size.resolve_left short) _)
  · subst e
    exact manage_stage_refuses s rq some_ size
  · exact refuses e ⟨by decide, (if_neg some_).trans (sized_refuses size _)⟩
  · obtain ⟨index, sets, phases⟩ := writeControlAct_refuses some_
    exact ⟨fun beyond => refuses e ⟨by decide, index beyond⟩, fun low one size => refuses e ⟨by decide, sets low one size⟩,
      fun two one size => refuses e ⟨by decide, phases two one size⟩⟩
  · exact refuses e ⟨by decide, (if_neg some_).trans (sized_refuses size _)⟩
  · exact refuses e ⟨by decide, (if_neg some_).trans (sized_refuses size _)⟩
  · exact refuses e ⟨by decide, (if_neg some_).trans (sized_refuses size _)⟩

end Sys2Proof.Machine
end

section
/-! Frame boundaries and the links: what a port sends next, and what LINK_DOWN and LINK_UP do (R8, R12 to R17). -/

namespace Sys2Proof.Machine

/-! ### The choice at a boundary (R15, R16) -/

theorem modPort_congr {s : State} {p : Port} {f g : PortState → PortState} (same : f (s.port p) = g (s.port p)) :
    s.modPort p f = s.modPort p g := by
  cases p with
  | S => exact congrArg (fun q => { s with portS := q }) same
  | F => exact congrArg (fun q => { s with portF := q }) same

theorem modPort_id (s : State) (p : Port) : (s.modPort p fun q => q) = s := by cases p <;> rfl

theorem resendReady_ready {q : PortState} (again : q.resendReady = true) : q.transitReady = true := by
  unfold PortState.resendReady PortState.transitReady at *
  cases head : q.buf.head? with
  | none => rw [head] at again; cases again
  | some x =>
    rw [head] at again
    exact (Bool.and_eq_true_iff.1 again).2

theorem choose_uninserted {q : PortState} (empty : q.ins = []) :
    q.choose = if q.transitReady then .transit else .nothing := by
  unfold PortState.choose
  rw [empty]
  cases again : q.resendReady with
  | true => rw [resendReady_ready again]; rfl
  | false => cases q.transitReady <;> rfl

theorem choose_inserted {q : PortState} {f : InsertFrame} {fs : List InsertFrame} (waiting : q.ins = f :: fs) : q.choose =
    if f.isProtect = false ∧ (q.resendReady = true ∨ (q.transitReady = true ∧ q.lastServed = .insert)) then .transit
    else .insert := by
  unfold PortState.choose
  rw [waiting]
  cases protect : f.isProtect with
  | true => simp [protect]
  | false =>
    cases again : q.resendReady with
    | true => simp [protect]
    | false =>
      cases q.transitReady with
      | false => simp [protect]
      | true => cases q.lastServed <;> simp [protect]

theorem arbitrate_uninserted {s : State} {p : Port} (empty : (s.port p).ins = []) :
    s.arbitrate p = if (s.port p).transitReady then s.modPort p PortState.beginTransit else s := by
  rw [State.arbitrate, choose_uninserted empty]
  cases (s.port p).transitReady <;> rfl

theorem arbitrate_inserted {s : State} {p : Port} {f : InsertFrame} {fs : List InsertFrame} (waiting : (s.port p).ins = f :: fs) :
    s.arbitrate p =
      if f.isProtect = false ∧ ((s.port p).resendReady = true
          ∨ ((s.port p).transitReady = true ∧ (s.port p).lastServed = .insert)) then s.modPort p PortState.beginTransit
      else
        let sent := s.modPort p fun q => { q with tx := .insert f 0, lastServed := .insert, ins := fs }
        if p = .F then sent.selection else sent := by
  have begins : s.modPort p PortState.beginInsert
      = s.modPort p fun q => { q with tx := .insert f 0, lastServed := .insert, ins := fs } :=
    modPort_congr (by rw [PortState.beginInsert, waiting])
  rw [State.arbitrate, choose_inserted waiting]
  split_ifs <;> simp_all

/-! ### The end of a transmission (R8, R10) -/

theorem exec_boundary {s : State} {p : Port} (hh : s.held = false) (up : (s.port p).up = true) :
    exec (.frameBoundary p) s = .next (s.boundary p) := congrArg Host.Outcome.next (State.onLine_of_up hh up _)

theorem restartSending_iff (s : State) : s.restartSending = true ↔
    s.restartPending = true ∧ ∃ f n, s.portS.tx = .insert f n ∧ f.kind = .reply true := by
  unfold State.restartSending
  cases s.portS.tx <;> simp

/-- A transmission that has ended is noted, and the arbiter chooses. -/
theorem boundary_arbitrates {s : State} {p : Port} (ended : (s.port p).outrun = false)
    (no_restart : ¬ (p = .S ∧ s.restartSending = true)) : s.boundary p = (s.modPort p PortState.finish).arbitrate p := by
  unfold State.boundary
  rw [if_neg (by simp [ended])]
  exact if_neg (by simpa using no_restart)

theorem boundary_idle {s : State} {p : Port} (idle : (s.port p).tx = .idle) : s.boundary p = s.arbitrate p := by
  have ended : (s.port p).outrun = false := by rw [PortState.outrun, idle]
  have finished : s.modPort p PortState.finish = s :=
    (modPort_congr (g := fun q => q) (by rw [PortState.finish, idle])).trans (modPort_id s p)
  rw [boundary_arbitrates ended, finished]
  rintro ⟨rfl, sending⟩
  obtain ⟨-, f, n, tx, -⟩ := (restartSending_iff s).1 sending
  exact absurd (idle.symm.trans tx) nofun

/-- The end of an insert frame, and of a transit frame found good, is the boundary of the port once it is noted. -/
theorem exec_boundary_ends {s : State} {p : Port} {f : PortState → PortState} (hh : s.held = false) (up : (s.port p).up = true)
    (ended : (s.port p).outrun = false) (no_restart : ¬ (p = .S ∧ s.restartSending = true))
    (finish : (s.port p).finish = f (s.port p)) (idle : (f (s.port p)).tx = .idle) (still : (f (s.port p)).up = true) :
    exec (.frameBoundary p) s = exec (.frameBoundary p) (s.modPort p f) := by
  have noted : s.modPort p PortState.finish = s.modPort p f := modPort_congr finish
  rw [exec_boundary hh up, exec_boundary (s := s.modPort p f) (by rw [State.modPort_held]; exact hh)
    (by rw [State.modPort_port]; exact still), boundary_arbitrates ended no_restart, noted,
    boundary_idle (by rw [State.modPort_port]; exact idle)]

/-! ### The loss of a link (R12, R17) -/

theorem loseInput_only (s : State) (p : Port) : s.loseInput p = { s with
    portS := (s.loseInput p).portS, portF := (s.loseInput p).portF, fresh := (s.loseInput p).fresh } := by
  unfold State.loseInput State.setRx
  split
  · rw [badFrame_only]
    cases p <;> rfl
  · cases p <;> rfl
  · cases p <;> rfl

theorem loseInput_receiving {s : State} {p : Port} {f : RxFrame} (rx : (s.port p).rx = .receiving f) :
    s.loseInput p = (s.badFrame p f fun _ received => received).setRx p .idle := by rw [State.loseInput, rx]

theorem loseInput_free {s : State} {p : Port} (rx : ∀ f, (s.port p).rx ≠ .receiving f) : s.loseInput p = s.setRx p .idle := by
  unfold State.loseInput
  split
  · next f h => exact absurd h (rx f)
  · rfl
  · rfl

/-- The check failures of a port whose input is lost (R12). -/
def PortState.lostFailures (q : PortState) : Nat :=
  match q.rx with
  | .receiving _ => bump q.ctr.checkFailures
  | .idle | .ignoring => q.ctr.checkFailures

theorem loseInput_port (s : State) (p : Port) : (s.loseInput p).port p
    = { s.port p with rx := .idle, ctr := { (s.port p).ctr with checkFailures := (s.port p).lostFailures } } := by
  unfold PortState.lostFailures
  cases rx : (s.port p).rx with
  | receiving f => rw [loseInput_receiving rx, setRx_port, badFrame_own]
  | idle => rw [loseInput_free (by simp [rx]), setRx_port]
  | ignoring => rw [loseInput_free (by simp [rx]), setRx_port]

theorem countUpDrop_port (s : State) (k : InsertKind) (p : Port) : (s.countUpDrop k).port p = s.port p := by
  cases k <;> cases p <;> rfl

theorem foldl_countUpDrop_port (q : List InsertFrame) (p : Port) :
    ∀ s : State, (q.foldl (fun s f => s.countUpDrop f.kind) s).port p = s.port p := by
  induction q with
  | nil => exact fun _ => rfl
  | cons f q ih => exact fun s => (ih _).trans (countUpDrop_port s f.kind p)

/-- The link discards of a port whose output stops (R17). -/
def PortState.stopDiscards (q : PortState) : Port → Nat
  | .S => bumpBy q.ctr.linkDiscards q.buf.length
  | .F => bumpBy (bumpBy q.ctr.linkDiscards q.buf.length) q.ins.length

theorem stopOutput_port (s : State) (p : Port) : (s.stopOutput p).port p = { s.port p with
    up := false, line := cutLine (s.port p), tx := .idle, buf := [], ins := []
    ctr := { (s.port p).ctr with linkDiscards := (s.port p).stopDiscards p } } := by
  unfold State.stopOutput
  rw [State.modPort_of_other]
  cases p with
  | F => rfl
  | S => exact foldl_countUpDrop_port _ .S _

theorem stopOutput_other (s : State) (p : Port) : (s.stopOutput p).port (otherPort p)
    = { s.port (otherPort p) with rx := noSlot (s.port (otherPort p)).rx } := by
  unfold State.stopOutput
  rw [State.modPort_port]
  cases p with
  | F => rfl
  | S => exact congrArg (fun q : PortState => { q with rx := noSlot q.rx }) (foldl_countUpDrop_port _ .F _)

/-- A counter raised one by one is raised at once. -/
theorem bumpBy_bump (c n : Nat) : bumpBy (bump c) n = bumpBy c (n + 1) := by
  unfold bumpBy bump
  split <;> omega

theorem foldl_countUpDrop_notices (q : List InsertFrame) : ∀ s : State,
    (q.foldl (fun s f => s.countUpDrop f.kind) s).noticesDropped
      = bumpBy s.noticesDropped (q.filter fun f => f.kind == .notice).length := by
  induction q with
  | nil => exact fun s => (bumpBy_zero _).symm
  | cons f q ih =>
    intro s
    rw [List.foldl_cons, ih]
    cases kind : f.kind with
    | notice => simp [kind, State.countUpDrop, bumpBy_bump]
    | reply r => simp [kind, State.countUpDrop]
    | command c => simp [kind, State.countUpDrop]

theorem foldl_countUpDrop_replies (q : List InsertFrame) : ∀ s : State,
    (q.foldl (fun s f => s.countUpDrop f.kind) s).repliesDropped
      = bumpBy s.repliesDropped (q.filter fun f => f.kind == .reply false || f.kind == .reply true).length := by
  induction q with
  | nil => exact fun s => (bumpBy_zero _).symm
  | cons f q ih =>
    intro s
    rw [List.foldl_cons, ih]
    cases kind : f.kind with
    | notice => simp [kind, State.countUpDrop]
    | reply r => cases r <;> simp [kind, State.countUpDrop, bumpBy_bump]
    | command c => simp [kind, State.countUpDrop]

/-- What the loss of a link leaves of the part, before a selection or a RESTART follows. -/
def State.linkLost (s : State) (p : Port) : State := (s.loseInput p).stopOutput p

theorem linkLost_lines (s : State) (p : Port) : onlyLines s (s.linkLost p) := (loseInput_lines s p).trans (stopOutput_lines ..)

theorem exec_linkDown {s : State} {p : Port} (hh : s.held = false) (up : (s.port p).up = true) :
    exec (.linkDown p) s = .next (match (generalizing := false) p with
      | .F => if (s.port p).ins = [] then s.linkLost p else (s.linkLost p).selection
      | .S => if s.restartPending = true then (s.linkLost p).enterRestart else s.linkLost p) := by
  have lost : exec (.linkDown p) s = .next ((s.linkLost p).afterLinkDown p !(s.port p).ins.isEmpty) :=
    congrArg Host.Outcome.next (State.onLine_of_up hh up _)
  rw [lost]
  cases p with
  | F => cases empty : (s.port .F).ins <;> rfl
  | S =>
    obtain ⟨_, _, _, _, _, only⟩ := onlyLines_iff.1 (linkLost_lines s .S)
    have pending : (s.linkLost .S).restartPending = s.restartPending := by rw [only]
    dsimp only [State.afterLinkDown]
    rw [pending]

theorem linkLost_port (s : State) (p : Port) : (s.linkLost p).port p = { s.port p with
    up := false, rx := .idle, buf := [], ins := [], tx := .idle, line := cutLine (s.port p)
    ctr := { (s.port p).ctr with checkFailures := (s.port p).lostFailures, linkDiscards := (s.port p).stopDiscards p } } := by
  have discards : ((s.loseInput p).port p).stopDiscards p = (s.port p).stopDiscards p := by
    rw [loseInput_port]
    cases p <;> rfl
  rw [State.linkLost, stopOutput_port, discards, loseInput_port]
  rfl

theorem cutLine_idle {q : PortState} (tx : q.tx = .idle) : cutLine q = q.line := by
  unfold cutLine
  rw [tx]

theorem cutLine_insert {q : PortState} {f : InsertFrame} {n : Nat} (tx : q.tx = .insert f n) :
    cutLine q = ⟨f.bytes.take n, .cutOff⟩ :: q.line := by
  unfold cutLine
  rw [tx]

theorem cutLine_transit {q : PortState} {n : Nat} {x : TransitSlot} {xs : List TransitSlot} (tx : q.tx = .transit n)
    (buf : q.buf = x :: xs) : cutLine q = ⟨x.bytes.take n, .cutOff⟩ :: q.line := by
  unfold cutLine
  rw [tx, buf]
  rfl

theorem loseInput_dropped (s : State) (p : Port) :
    (s.loseInput p).repliesDropped = s.repliesDropped ∧ (s.loseInput p).noticesDropped = s.noticesDropped := by
  rw [loseInput_only]
  exact ⟨rfl, rfl⟩

theorem linkLost_F_dropped (s : State) :
    (s.linkLost .F).repliesDropped = s.repliesDropped ∧ (s.linkLost .F).noticesDropped = s.noticesDropped :=
  loseInput_dropped s .F

theorem linkLost_S_dropped (s : State) :
    (s.linkLost .S).noticesDropped = bumpBy s.noticesDropped ((s.port .S).ins.filter fun f => f.kind == .notice).length
    ∧ (s.linkLost .S).repliesDropped = bumpBy s.repliesDropped
      ((s.port .S).ins.filter fun f => f.kind == .reply false || f.kind == .reply true).length := by
  obtain ⟨replies, notices⟩ := loseInput_dropped s .S
  have queue : ((s.loseInput .S).port .S).ins = (s.port .S).ins := by rw [loseInput_port]
  unfold State.linkLost State.stopOutput State.countQueue
  simp only [State.modPort_noticesDropped, State.modPort_repliesDropped, foldl_countUpDrop_notices, foldl_countUpDrop_replies,
    queue, notices, replies, and_self]

/-- The other port of a lost link, by what becomes of the frame being received (R12). -/
theorem linkLost_other_of {s : State} {p : Port} {r : PortState} (abandoned : (s.loseInput p).port (otherPort p) = r) :
    (s.linkLost p).port (otherPort p) = { r with rx := noSlot r.rx } := by
  rw [State.linkLost, stopOutput_other, abandoned]

theorem linkLost_unslotted {s : State} {p : Port} (free : ∀ f, (s.port p).rx = .receiving f → f.inSlot = false) :
    (s.linkLost p).port (otherPort p) = { s.port (otherPort p) with rx := noSlot (s.port (otherPort p)).rx } := by
  refine linkLost_other_of ?_
  cases rx : (s.port p).rx with
  | receiving f => rw [loseInput_receiving rx, setRx_other, badFrame_unslotted _ (free f rx)]
  | idle => rw [loseInput_free (by simp [rx]), setRx_other]
  | ignoring => rw [loseInput_free (by simp [rx]), setRx_other]

theorem linkLost_silent {s : State} {p : Port} {f : RxFrame} {front : List TransitSlot} {slot : TransitSlot}
    (rx : (s.port p).rx = .receiving f) (hs : f.inSlot = true) (hb : (s.port (otherPort p)).buf = front ++ [slot])
    (no_copy : front ≠ [] ∨ ∀ n, (s.port (otherPort p)).tx ≠ .transit n) :
    (s.linkLost p).port (otherPort p)
      = { s.port (otherPort p) with rx := noSlot (s.port (otherPort p)).rx, buf := front } :=
  linkLost_other_of (by rw [loseInput_receiving rx, setRx_other, badFrame_silent _ hs hb no_copy])

theorem linkLost_poisons {s : State} {p : Port} {f : RxFrame} {slot : TransitSlot} {n : Nat}
    (rx : (s.port p).rx = .receiving f) (hs : f.inSlot = true) (hb : (s.port (otherPort p)).buf = [slot])
    (tx : (s.port (otherPort p)).tx = .transit n) :
    (s.linkLost p).port (otherPort p) = { s.port (otherPort p) with
      rx := noSlot (s.port (otherPort p)).rx, buf := [], tx := .idle
      line := poisonedCopy slot.bytes slot.bytes.length :: (s.port (otherPort p)).line
      ctr := { (s.port (otherPort p)).ctr with poisoned := bump (s.port (otherPort p)).ctr.poisoned } } :=
  linkLost_other_of (by rw [loseInput_receiving rx, setRx_other, badFrame_poisons _ hs hb tx])

/-! ### The boundary by what is being sent -/

theorem exec_boundary_idle {s : State} {p : Port} (hh : s.held = false) (up : (s.port p).up = true)
    (idle : (s.port p).tx = .idle) : exec (.frameBoundary p) s = .next (s.arbitrate p) := by
  rw [exec_boundary hh up, boundary_idle idle]

theorem exec_boundary_insert {s : State} {p : Port} {f : InsertFrame} {n : Nat} (hh : s.held = false)
    (up : (s.port p).up = true) (tx : (s.port p).tx = .insert f n)
    (no_restart : ¬ (p = .S ∧ s.restartPending = true ∧ f.kind = .reply true)) :
    exec (.frameBoundary p) s
      = exec (.frameBoundary p) (s.modPort p fun q => { q with tx := .idle, line := ⟨f.bytes, .whole⟩ :: q.line }) := by
  refine exec_boundary_ends hh up (by rw [PortState.outrun, tx]) ?_ (by rw [PortState.finish, tx]; rfl) rfl up
  rintro ⟨rfl, sending⟩
  obtain ⟨pending, g, m, sent, last⟩ := (restartSending_iff s).1 sending
  obtain ⟨rfl, -⟩ := Tx.insert.inj (tx.symm.trans sent)
  exact no_restart ⟨rfl, pending, last⟩

theorem exec_boundary_transit {s : State} {p : Port} {n : Nat} {x : TransitSlot} {xs : List TransitSlot} (hh : s.held = false)
    (up : (s.port p).up = true) (tx : (s.port p).tx = .transit n) (buf : (s.port p).buf = x :: xs) (good : x.check = .good) :
    exec (.frameBoundary p) s = exec (.frameBoundary p)
      (s.modPort p fun q => { q with tx := .idle, buf := xs, line := ⟨x.bytes, .whole⟩ :: q.line }) := by
  refine exec_boundary_ends hh up (by simp [PortState.outrun, tx, buf, good]) ?_ (by rw [PortState.finish, tx, buf]; rfl) rfl up
  rintro ⟨rfl, sending⟩
  obtain ⟨-, g, m, sent, -⟩ := (restartSending_iff s).1 sending
  exact absurd (tx.symm.trans sent) nofun

theorem exec_boundary_arriving {s : State} {p : Port} {n : Nat} {x : TransitSlot} {xs : List TransitSlot} (hh : s.held = false)
    (up : (s.port p).up = true) (tx : (s.port p).tx = .transit n) (buf : (s.port p).buf = x :: xs) (arriving : x.check ≠ .good) :
    exec (.frameBoundary p) s = .next s := by
  have outrun : (s.port p).outrun = true := by simp [PortState.outrun, tx, buf, arriving]
  rw [exec_boundary hh up, State.boundary, if_pos outrun]

/-- Settles O9: the boundary by what is being sent, and the lost link part by part. -/
theorem arbiterChoosesAtBoundary : Obligations.ArbiterChoosesAtBoundary := by
  refine ⟨fun s p hh up => ⟨fun idle => ?_, fun f n tx no_restart => exec_boundary_insert hh up tx no_restart,
      fun n x xs tx buf => ⟨exec_boundary_transit hh up tx buf, exec_boundary_arriving hh up tx buf⟩⟩,
    fun s p hh up => ⟨s.linkLost p, exec_linkDown hh up, linkLost_lines s p, ?_, fun tx => ?_, fun f n tx => ?_,
      fun n x xs tx buf => ?_, ?_, ?_, linkLost_unslotted, fun f front slot rx hs hb => ⟨linkLost_silent rx hs hb, ?_⟩⟩,
    fun s p hh down => ?_, fun s p hh => ⟨fun down => ?_, fun up => ?_⟩⟩
  · rw [exec_boundary_idle hh up idle]
    cases waiting : (s.port p).ins with
    | nil =>
      dsimp only
      rw [arbitrate_uninserted waiting, waiting]
      rfl
    | cons f fs =>
      dsimp only
      rw [arbitrate_inserted waiting, waiting]
      rfl
  · rw [linkLost_port]
    cases p <;> rfl
  · rw [linkLost_port]; exact cutLine_idle tx
  · rw [linkLost_port]; exact cutLine_insert tx
  · rw [linkLost_port]; exact cutLine_transit tx buf
  · rintro rfl
    exact linkLost_F_dropped s
  · rintro rfl
    exact linkLost_S_dropped s
  · rintro n rfl tx
    exact linkLost_poisons rx hs hb tx
  · exact congrArg Host.Outcome.next (if_neg (by simp [hh, down]))
  · exact congrArg Host.Outcome.next (State.onLine_of_down down _)
  · exact congrArg Host.Outcome.next (if_pos (by simp [up]))

end Sys2Proof.Machine
end
